-- ==== Sys2Proof/Word.lean ====
section
/-! DEFINITION. The number and byte types of the part: the sizes that the spec fixes once for all. -/

namespace Sys2Proof

/-- One byte. -/
abbrev Byte := BitVec 8

/-- One of the sixteen parties on the ingest link (00_scope.md section 6). -/
abbrev Requester := Fin 16

/-- One of the 512 slots (R20). -/
abbrev SlotNo := Fin 512

/-- A frame number; the frames in use are those below N_F, 16..1,024 (R88). -/
abbrev FrameNo := Fin 1024

/-- One of the 32 lanes; lane 0 is the common lane (R82). -/
abbrev LaneNo := Fin 32

/-- One of the eight classes (R68). -/
abbrev ClassNo := Fin 8

/-- One of the four tape copy pools (R125). -/
abbrev PoolNo := Fin 4

/-- One of the sixteen command cells or confirm cells (R180, R181). -/
abbrev CellNo := Fin 16

/-- A 48-bit upstream byte address (R1). -/
abbrev UpAddr := BitVec 48

/-- A collection tag (R71). -/
abbrev Tag := BitVec 32

/-- A 48-bit count of seconds: the tick count (R82) or the bridge time (R150). -/
abbrev Seconds := BitVec 48

/-- A digest word, P in the upper half and S in the lower (R57). -/
abbrev Digest := BitVec 32

/-- A position in the notice ring; positions wrap at 1,024 (R161). -/
abbrev RingPos := BitVec 10

/-- A set of pools: bit p stands for pool p (R177). -/
abbrev PoolSet := BitVec 4

end Sys2Proof
end

