-- ==== Sys2Proof/Syntax.lean ====
section
/-! DEFINITION. The commands of the part: one constructor for each row of spec/opcode_table.json, in the table's order.
The table gives the rows no operands; the operands are those the cited rules name (log 3). -/

namespace Sys2Proof

/-- What the store answers to a write (R15). -/
inductive StoreAnswer where
  | done
  | fault
deriving DecidableEq, Repr

/-- What the store answers to a requester's read (R16): the bytes read, or FAULT. -/
inductive ReadAnswer where
  | data (bytes : List Byte)
  | fault
deriving DecidableEq, Repr

/-- What the store answers to a lookup probe (R74, R185): the 16 bytes of the entry probed, or FAULT. -/
inductive ProbeAnswer where
  | data (bytes : List Byte)
  | fault
deriving DecidableEq, Repr

/-- The commands. A write command carries the whole request: requester, upstream address and bytes. -/
inductive Instr where
  /-- POWER_ON_RESET (R168): the level of the two strap pins is the operand. -/
  | powerOnReset (straps : Fin 4)
  /-- PROFILE_READ_DONE (R168, R171): the read of the profile is complete. The operand is the configuration memory, all
  4,096 bytes of it (R186); which of them the part takes is its own affair. -/
  | profileReadDone (memory : List Byte)
  /-- PROFILE_READ_ERROR (R169). -/
  | profileReadError
  /-- PROFILE_READ_TIMEOUT (R169). -/
  | profileReadTimeout
  /-- LINK_RESET (R17). -/
  | linkReset
  /-- UPSTREAM_WRITE (R12). -/
  | upstreamWrite (r : Requester) (addr : UpAddr) (data : List Byte)
  /-- UPSTREAM_READ (R14). -/
  | upstreamRead (r : Requester) (addr : UpAddr) (len : Nat)
  /-- OPEN (R23): a slot-record write. -/
  | openFile (r : Requester) (addr : UpAddr) (data : List Byte)
  /-- CLOSE (R29): a slot-record write. -/
  | closeFile (r : Requester) (addr : UpAddr) (data : List Byte)
  /-- ABANDON (R30): a slot-record write. -/
  | abandonFile (r : Requester) (addr : UpAddr) (data : List Byte)
  /-- DATA_WRITE (R36): a slot-window write. -/
  | dataWrite (r : Requester) (addr : UpAddr) (data : List Byte)
  /-- SLOT_READ (R37): a slot-window read. -/
  | slotRead (r : Requester) (addr : UpAddr) (len : Nat)
  /-- REGISTER (R80): a command cell write, as the eleven rows that follow it. -/
  | register (r : Requester) (addr : UpAddr) (data : List Byte)
  /-- UNREGISTER (R81). -/
  | unregister (r : Requester) (addr : UpAddr) (data : List Byte)
  /-- SET_CLASS (R145). -/
  | setClass (r : Requester) (addr : UpAddr) (data : List Byte)
  /-- SET_PATTERN (R148). -/
  | setPattern (r : Requester) (addr : UpAddr) (data : List Byte)
  /-- SET_TABLE (R147). -/
  | setTable (r : Requester) (addr : UpAddr) (data : List Byte)
  /-- SET_SERIAL (R149). -/
  | setSerial (r : Requester) (addr : UpAddr) (data : List Byte)
  /-- SET_TIME (R150). -/
  | setTime (r : Requester) (addr : UpAddr) (data : List Byte)
  /-- SET_ATTENTION (R151). -/
  | setAttention (r : Requester) (addr : UpAddr) (data : List Byte)
  /-- DRAIN (R152). -/
  | drain (r : Requester) (addr : UpAddr) (data : List Byte)
  /-- FREEZE (R143). -/
  | freeze (r : Requester) (addr : UpAddr) (data : List Byte)
  /-- RESUME (R135). -/
  | resume (r : Requester) (addr : UpAddr) (data : List Byte)
  /-- DISCARD (R136). -/
  | discard (r : Requester) (addr : UpAddr) (data : List Byte)
  /-- CONFIRM (R129): a confirm cell write. -/
  | confirm (r : Requester) (addr : UpAddr) (data : List Byte)
  /-- CONSUMER_INDEX (R164): a write of the consumer-index word. -/
  | consumerIndex (r : Requester) (addr : UpAddr) (data : List Byte)
  /-- WRITE_SEND (R11): the store port takes the next queued write. -/
  | writeSend
  /-- STORE_WRITE_ANSWER (R15). -/
  | storeWriteAnswer (a : StoreAnswer)
  /-- DATA_WRITE_FAULT (R54, R55). -/
  | dataWriteFault
  /-- STATUS_WORD_FAULT (R34). -/
  | statusWordFault
  /-- OPEN_HEADER_ANSWER (R92). -/
  | openHeaderAnswer (a : StoreAnswer)
  /-- INDEX_ENTRY_ANSWER (R117). -/
  | indexEntryAnswer (a : StoreAnswer)
  /-- SEAL_HEADER_DONE (R120). -/
  | sealHeaderDone
  /-- SEAL_HEADER_FAULT (R121). -/
  | sealHeaderFault
  /-- CONFIRM_STATUS_FAULT (R137). -/
  | confirmStatusFault
  /-- COMMAND_STATUS_FAULT (R142). -/
  | commandStatusFault
  /-- DESCRIPTION_RECORD_FAULT (R156). -/
  | descriptionRecordFault
  /-- NOTICE_WRITE_DONE (R162). -/
  | noticeWriteDone
  /-- NOTICE_WRITE_FAULT (R165). -/
  | noticeWriteFault
  /-- CLEARING_WRITE_ANSWER (R167). -/
  | clearingWriteAnswer (a : StoreAnswer)
  /-- PASSIVE_RECORD_ANSWER (R175). -/
  | passiveRecordAnswer (a : StoreAnswer)
  /-- READ_ANSWER (R16). -/
  | readAnswer (a : ReadAnswer)
  /-- PROBE_ANSWER (R74). -/
  | probeAnswer (a : ProbeAnswer)
  /-- TICK (R111). -/
  | tick
  /-- QUIET_EXPIRY (R112) of one frame. -/
  | quietExpiry (n : FrameNo)
  /-- AGE_EXPIRY (R113) of one frame. -/
  | ageExpiry (n : FrameNo)
  /-- STRAGGLER_EXPIRY (R115) of one frame. -/
  | stragglerExpiry (n : FrameNo)
  /-- OWN_WRITE_DONE (R15). -/
  | ownWriteDone
  /-- COMMAND_CODE_REFUSED (R141): a command cell write. -/
  | commandCodeRefused (r : Requester) (addr : UpAddr) (data : List Byte)
deriving DecidableEq, Repr

end Sys2Proof
end

