-- ==== Sys2Proof/Config.lean ====
section
/-! DEFINITION. The free values: what the spec leaves open, as constants with no body. Nothing can be proved of their
values, so every claim holds whatever they are. -/

namespace Sys2Proof

/-- The orders the spec leaves open (R13, R158, R87): the answer to question `question` in the event numbered `event`
(log 9). DESIGN CHOICE of form only; the value is free. -/
opaque Config.orderChoice (event question : Nat) : Nat

/-- The 5-byte store address field of a LOOKUP_FAULT notice whose probe lies at or above 2^40 (R76, R182): the address
does not fit the field and the spec states no value (log 17). -/
opaque Config.beyondStoreField (addr : Nat) : Nat

/-- Which of several failing items of one profile check is reported, where R171 states no order among them (log 18). -/
opaque Config.detailChoice (check items : Nat) : Nat

end Sys2Proof
end

