-- ==== Sys2Proof/Machine/Bytes.lean ====
section
/-! DEFINITION. Byte order and records: fields of more than one byte stand least significant byte first, and every byte of a
record that belongs to no field is zero (R177). -/

namespace Sys2Proof.Machine

/-- The low `n` bytes of `x`, least significant first (R177). -/
def le : Nat → Nat → List Byte
  | 0, _ => []
  | n + 1, x => BitVec.ofNat 8 x :: le n (x / 256)

/-- The number whose bytes are `bs`, least significant first (R177). -/
def leNat : List Byte → Nat
  | [] => 0
  | b :: bs => b.toNat + 256 * leNat bs

/-- The field of `size` bytes at offset `off` of a record, as a number (R177). -/
def field (data : List Byte) (off size : Nat) : Nat := leNat ((data.drop off).take size)

/-- Bit `k` of the byte at offset `off` of a record. -/
def bitAt (data : List Byte) (off k : Nat) : Bool := (field data off 1).testBit k

/-- `bs` written over a record at offset `off`. -/
def overlay (data : List Byte) (off : Nat) (bs : List Byte) : List Byte :=
  data.take off ++ bs ++ data.drop (off + bs.length)

/-- A record of `n` bytes with the given fields (offset, bytes), and zero in every other byte (R177). -/
def record (n : Nat) (fields : List (Nat × List Byte)) : List Byte :=
  fields.foldl (fun r f => overlay r f.1 f.2) (List.replicate n 0)

/-- The flag as a number, 0 or 1. -/
def bit (b : Bool) : Nat := if b then 1 else 0

end Sys2Proof.Machine
end

