-- ==== Sys2Proof/Machine/State.lean ====
section
/-! DEFINITION. The state of the part, block by block as 00_scope.md section 3 lists the blocks, as plain data; the reasons a
step can stop; the state after power-on reset. -/

namespace Sys2Proof.Machine

/-! ### Profile loader and window decoder -/

/-- The start-up state (R168, R169). -/
inductive LoaderState where
  | loading
  | active
  | passive
deriving DecidableEq, Repr

/-- The profile loader: the start-up state and the strap value kept since the last power-on reset (R168). -/
structure Loader where
  state : LoaderState
  strap : Fin 4
deriving DecidableEq, Repr

/-- One window (R5): upstream range [base, base + size), store translation base, and the pass windows' read-only option.
A window of size 0 is absent and holds no address (R170). -/
structure Window where
  base : Nat
  size : Nat
  store : Nat
  readOnly : Bool
deriving DecidableEq, Repr

/-- The window decoder (R5, R9): the seven windows and the open-passage flag. -/
structure Decoder where
  control : Window
  slot : Window
  pack : Window
  pass : Vector Window 4
  openPassage : Bool
deriving DecidableEq, Repr

/-! ### Ingest port and store queue -/

/-- A requester read that has a store address: `len` bytes read at `addr`, then `pad` zero bytes (R37). -/
structure ReadReq where
  requester : Requester
  addr : Nat
  len : Nat
  pad : Nat
deriving DecidableEq, Repr

/-- A request left awaiting answer: a read held behind its requester's writes, or a read sent downstream (R14). -/
inductive Awaiting where
  | held (read : ReadReq)
  | sent
deriving DecidableEq, Repr

/-- The ingest port (R1, R17): what each requester awaits, and whether link-reset handling is in progress. -/
structure Port where
  awaiting : Vector (Option Awaiting) 16
  linkReset : Bool
deriving DecidableEq, Repr

/-- Where an upstream write in the store queue came in: its window, and for a slot-window write the slot and the file,
known by its frame and entry number (R11, section 3.7). -/
inductive UpOrigin where
  | control
  | slotData (slot : SlotNo) (frame : FrameNo) (entry : Nat)
  | pack (frame : FrameNo)
  | pass (window : Fin 4)
  | unclaimed
  | passive
deriving DecidableEq, Repr

/-- What an own write of the part is (R11). -/
inductive OwnKind where
  | statusWord (slot : SlotNo)
  | openHeader (frame : FrameNo) (serial : Nat)
  | sealHeader (frame : FrameNo) (serial : Nat)
  | indexEntry (frame : FrameNo) (entry : Nat) (serial : Nat)
  | confirmStatus (cell : CellNo)
  | commandStatus (cell : CellNo)
  | notice
  | clearing (pos : RingPos)
  | description
  | passiveRecord
deriving DecidableEq, Repr

/-- Whose write an entry is (R11). -/
inductive Origin where
  | upstream (r : Requester) (origin : UpOrigin) (addr : UpAddr)
  | own (kind : OwnKind)
deriving DecidableEq, Repr

/-- One entry of the store queue (R11). `countsFor` is the requester whose reads wait for it (R12, R14); `cancelled` is
the mark of R98. -/
structure Entry where
  origin : Origin
  countsFor : Option Requester
  addr : Nat
  data : List Byte
  cancelled : Bool
deriving DecidableEq, Repr

/-- An own write made by a block and not yet in the queue (R13). -/
structure OwnWrite where
  kind : OwnKind
  addr : Nat
  data : List Byte
deriving DecidableEq, Repr

/-- A requester read outstanding at the store; not live when its request is no longer awaiting (R16, R18). -/
structure OutRead where
  read : ReadReq
  live : Bool
deriving DecidableEq, Repr

/-- A lookup probe outstanding at the store; not live when its lookup has been abandoned (R16, R78). -/
structure OutProbe where
  addr : Nat
  live : Bool
deriving DecidableEq, Repr

/-- The store queue (R11 to R16): the one FIFO of writes as its sent part and its unsent part, oldest first; the own
writes held until an own entry is free, oldest first; the reads and probes outstanding, in the order sent. -/
structure StoreQueue where
  sent : List Entry
  unsent : List Entry
  held : List OwnWrite
  reads : List OutRead
  probes : List OutProbe
deriving DecidableEq, Repr

/-! ### Slots, coverage and digests -/

/-- A pair of running sums, each in 0..65,520 (R56). -/
structure Acc where
  s : Nat
  p : Nat
deriving DecidableEq, Repr

/-- The intent copied from an OPEN that was taken (R20). -/
structure Intent where
  tag : Tag
  length : Nat
  serial : Nat
  nameDigest : Nat
  hint : Nat
  closeRequired : Bool
deriving DecidableEq, Repr

/-- A half-open range [start, stop) of file offsets (R41). -/
structure Extent where
  start : Nat
  stop : Nat
deriving DecidableEq, Repr

/-- The coverage of a file: its extent list, or SCATTERED with the list absent (R41, R48). -/
inductive Coverage where
  | tracked (extents : List Extent)
  | scattered
deriving DecidableEq, Repr

/-- The coverage account of a file (R41). -/
structure Account where
  coverage : Coverage
  digestVoid : Bool
  overrun : Bool
  overrunCount : Nat
  storeFault : Bool
deriving DecidableEq, Repr

/-- What a slot entry out of IDLE holds (R20): owner, intent, last request number, coverage and digest fields. -/
structure File where
  owner : Requester
  intent : Intent
  lastReq : Byte
  account : Account
  acc : Acc
deriving DecidableEq, Repr

/-- The placement of a file in a pack: frame, entry number e and body offset d (R94). -/
structure Placement where
  frame : FrameNo
  entry : Nat
  offset : Nat
deriving DecidableEq, Repr

/-- A slot entry, with the fields that R20 gives each of its four states. -/
inductive SlotEntry where
  | idle
  | lookup (f : File)
  | waiting (f : File) (cls : ClassNo) (lane : LaneNo)
  | filling (f : File) (cls : ClassNo) (lane : LaneNo) (place : Placement)
deriving DecidableEq, Repr

/-- The slot engine (R20). -/
structure SlotEngine where
  table : Vector SlotEntry 512
deriving DecidableEq, Repr

/-! ### Collections and lanes -/

/-- The parameters F, A, T, Q, H and K of a class, which a pack takes as its snapshot (R68). -/
structure Params where
  files : Nat
  align : Nat
  target : Nat
  quiet : Nat
  age : Nat
  copies : Nat
deriving DecidableEq, Repr

/-- A class (R68). -/
structure ClassRec where
  ownLane : Bool
  params : Params
deriving DecidableEq, Repr

/-- A collection-table entry (R71). -/
structure CollEntry where
  tag : Tag
  cls : ClassNo
  pinned : Bool
  listed : Bool
  lane : Option LaneNo
deriving DecidableEq, Repr

/-- A search of the lookup engine (R73). -/
structure Search where
  slot : SlotNo
  claimed : Bool
  tag : Tag
  base : Nat
  count : Nat
  lo : Nat
  hi : Nat
deriving DecidableEq, Repr

/-- The collection table and lookup engine (R68 to R79); `entries` stands most recent first. -/
structure Collections where
  classes : Vector ClassRec 8
  entries : List CollEntry
  extBase : Nat
  extCount : Nat
  lookupQ : List SlotNo
  search : Option Search
deriving DecidableEq, Repr

/-- What a lane is bound to (R82). -/
inductive Binding where
  | unbound
  | mixed
  | collection (tag : Tag) (cls : ClassNo)
deriving DecidableEq, Repr

/-- A lane (R82). -/
structure Lane where
  binding : Binding
  openFrame : Option FrameNo
  reserved : Option FrameNo
  lastPlace : Seconds
deriving DecidableEq, Repr

/-- The lane table, with the tick count and the profile's lane hold time (R82, R84). -/
structure LaneTable where
  table : Vector Lane 32
  tick : Seconds
  hold : Nat
deriving DecidableEq, Repr

/-! ### Frames -/

/-- The seven frame states (R88). -/
inductive FrameState where
  | free
  | reserved
  | opened
  | closing
  | sealing
  | sealed
  | held
deriving DecidableEq, Repr

/-- The nine seal reasons (section 7.1). -/
inductive SealReason where
  | target
  | count
  | full
  | quiet
  | age
  | evicted
  | reclass
  | drain
  | reset
deriving DecidableEq, Repr

/-- A frame record (R89); a field not present holds zero. -/
structure Frame where
  state : FrameState
  lane : LaneNo
  serial : Nat
  cls : ClassNo
  params : Params
  tag : Tag
  mixed : Bool
  openTick : Seconds
  openTime : Seconds
  lastPlace : Seconds
  closeTick : Seconds
  fill : Nat
  count : Nat
  inFlight : Nat
  body : Acc
  index : Acc
  reason : Option SealReason
  fault : Bool
  forced : Bool
  assigned : PoolSet
  confirmed : PoolSet
  mismatches : Nat
deriving DecidableEq, Repr

/-- The frame table and placement unit (R88, R99, R101, R114): records, frame-wait queue, and the profile's frame size
exponent, N_F, standby floor, straggler time W and header preamble. -/
structure FrameTable where
  table : Vector Frame 1024
  waitQ : List SlotNo
  exp : Nat
  nF : Nat
  floor : Nat
  straggler : Nat
  preamble : List Byte
deriving DecidableEq, Repr

/-! ### Copy unit and command unit -/

/-- The copy unit's pattern (R125). -/
structure CopyUnit where
  period : Nat
  counter : Nat
  masks : Vector (BitVec 16) 4
deriving DecidableEq, Repr

/-- The command unit (R143, R149, R150, R151, R155); `nextSerial` is 2^48 when the serials are exhausted. -/
structure CommandUnit where
  frozen : Bool
  attnMask : BitVec 16
  nextSerial : Nat
  bridgeTime : Seconds
  rewrites : BitVec 32
deriving DecidableEq, Repr

/-! ### Notices -/

/-- The notice kinds (R158, R178). -/
inductive NoticeKind where
  | storeFault
  | packHeld
  | framesExhausted
  | packSealed
  | packReleased
  | framesAvailable
  | stray
  | protect
  | malformed
  | lookupFault
  | laneEvicted
  | confirmRefused
  | resetDone
deriving DecidableEq, Repr

/-- The write a STORE_FAULT notice reports, with the fields its rule names (R182's source byte). -/
inductive FaultedWrite where
  | upstream (r : Requester) (length : Nat)
  | slotData (r : Requester) (slot : SlotNo) (frame : FrameNo) (length : Nat)
  | statusWord (slot : SlotNo)
  | openHeader (frame : FrameNo) (serial : Nat)
  | indexEntry (frame : FrameNo) (entry : Nat) (serial : Nat)
  | sealHeader (frame : FrameNo) (serial : Nat)
  | confirmStatus (cell : CellNo)
  | commandStatus (cell : CellNo)
  | description
deriving DecidableEq, Repr

/-- The cause of a PROTECT notice (R182's source byte). -/
inductive ProtectCause where
  | notFree (frame : FrameNo)
  | tail
  | readOnly
  | region
  | cancelled (frame : FrameNo)
deriving DecidableEq, Repr

/-- What a MALFORMED notice reports (R182's source byte). -/
inductive MalformedCause where
  | request
  | form
  | code
deriving DecidableEq, Repr

/-- The fields of a notice, by kind (R182). -/
inductive NoticeBody where
  | storeFault (write : FaultedWrite) (addr : Nat)
  | packHeld (frame : FrameNo) (serial : Nat) (mismatch : Bool)
  | framesExhausted (lane : LaneNo) (slot : SlotNo) (kept : Nat)
  | packSealed (frame : FrameNo) (lane : LaneNo) (forced : Bool) (reason : Option SealReason) (count : Nat)
      (tag : Tag) (length : Nat) (assigned : PoolSet) (digest : Digest) (serial : Nat)
  | packReleased (frame : FrameNo) (serial : Nat) (discarded : Bool) (assigned confirmed : PoolSet)
  | framesAvailable (free : Nat)
  | stray (r : Requester) (tally : Nat) (addr : UpAddr)
  | protect (cause : ProtectCause) (r : Requester) (addr : UpAddr)
  | malformed (cause : MalformedCause) (r : Requester) (addr : UpAddr)
  | lookupFault (slot : SlotNo) (addr : Nat) (tag : Tag)
  | laneEvicted (lane : LaneNo) (oldTag newTag : Tag)
  | confirmRefused (frame : FrameNo) (pool : Nat) (mismatches : Nat) (digest own : Digest) (serial : Nat)
  | resetDone (link : Bool) (profile : Nat)
deriving DecidableEq, Repr

/-- A notice: the bridge time of the event that posted it and its fields (R158). -/
structure Notice where
  time : Seconds
  body : NoticeBody
deriving DecidableEq, Repr

/-- The notice at the head of the pending queue: not in writing; its ring write made, with the lost count it carries; or
parked at the head after a FAULT, to be written again (R159, R163, R165). -/
inductive Writing where
  | none
  | made (lost : Nat)
  | parked (lost : Nat)
deriving DecidableEq, Repr

/-- The record of a ring position: the kind last written there, and for a STRAY its requester (R162, R38; log 13). -/
structure RingRecord where
  kind : NoticeKind
  strayOf : Option Requester
deriving DecidableEq, Repr

/-- The notice unit (chapter 10, R38). `toClear` counts the start-up clearing writes not yet answered DONE and
`keptClears` those kept after a FAULT, in ascending position (R167). -/
structure NoticeUnit where
  pending : List Notice
  writing : Writing
  producer : RingPos
  consumer : RingPos
  lap : Bool
  records : Vector (Option RingRecord) 1024
  lost : Nat
  faulted : Bool
  tallies : Vector Nat 16
  strayOut : Vector Bool 16
  toClear : Nat
  keptClears : List RingPos
deriving DecidableEq, Repr

/-! ### Outputs, stops and the whole state -/

/-- The part's answers on the ingest link (section 1.1). -/
inductive Answer where
  | accept
  | retry
  | data (bytes : List Byte)
  | dataFault
  | noTarget
deriving DecidableEq, Repr

/-- An answer and the requester it goes to. -/
structure LinkAnswer where
  r : Requester
  answer : Answer
deriving DecidableEq, Repr

/-- A request sent on the store port (R11, R14, R74). -/
inductive StoreRequest where
  | write (addr : Nat) (data : List Byte)
  | read (addr : Nat) (len : Nat)
deriving DecidableEq, Repr

/-- A read sent to the configuration memory (R168, R186). -/
structure ConfigRead where
  addr : Nat
  len : Nat
deriving DecidableEq, Repr

/-- Stops of the model. Both are SAFE: the model stops where the spec's store never goes. -/
inductive Fault where
  /-- Raised by the store-answer commands: no request that this answer answers is the oldest one sent. The store answers
  each request it was sent, in the order it was sent them (R11, R117), so the event cannot happen. SAFE (log 6). -/
  | answerNotDue
  /-- Raised by READ_ANSWER and PROBE_ANSWER: the store answers DATA with another number of bytes than were asked for
  (R16, R74). SAFE (log 7). -/
  | answerLength
deriving DecidableEq, Repr

/-- Refusals of the model. -/
inductive Refusal where
  /-- A row of the table with no meaning in the model; no arm of this model answers it. SAFE. -/
  | notModelled (mnemonic : String)
deriving DecidableEq, Repr

/-- The state of the part. The fields after `attention` are the model's own: what the last command put on the ingest link,
on the store port and on the configuration memory's port (log 8), the counter from which free orders are drawn (log 9), and the waiting commands (log 1). -/
structure State where
  loader : Loader
  decoder : Decoder
  port : Port
  queue : StoreQueue
  slots : SlotEngine
  coll : Collections
  lanes : LaneTable
  frames : FrameTable
  copy : CopyUnit
  cmd : CommandUnit
  notes : NoticeUnit
  attention : Bool
  linkOut : List LinkAnswer
  storeOut : List StoreRequest
  configOut : List ConfigRead
  choice : Nat
  pending : List Instr
deriving DecidableEq, Repr

/-! ### Reset values -/

/-- A window that holds no address. -/
def Window.absent : Window := { base := 0, size := 0, store := 0, readOnly := false }

/-- Both sums zero. -/
def Acc.zero : Acc := { s := 0, p := 0 }

/-- Parameters all zero, as a frame record holds them before OPEN (R89). -/
def Params.zero : Params := { files := 0, align := 0, target := 0, quiet := 0, age := 0, copies := 0 }

/-- A FREE frame: every field but the state cleared (R89). -/
def Frame.free : Frame :=
  { state := .free, lane := 0, serial := 0, cls := 0, params := Params.zero, tag := 0, mixed := false,
    openTick := 0, openTime := 0, lastPlace := 0, closeTick := 0, fill := 0, count := 0, inFlight := 0,
    body := Acc.zero, index := Acc.zero, reason := none, fault := false, forced := false,
    assigned := 0, confirmed := 0, mismatches := 0 }

/-- An unbound lane with no frames and time 0 (R82). -/
def Lane.unbound : Lane := { binding := .unbound, openFrame := none, reserved := none, lastPlace := 0 }

/-- The class values before a profile is loaded: the least value of each range of R68. DESIGN CHOICE, unsafe (log 12). -/
def ClassRec.least : ClassRec :=
  { ownLane := false, params := { files := 64, align := 512, target := 16, quiet := 0, age := 0, copies := 1 } }

/-- The read of profile `k` (R168): the 1,024 bytes from k x 1,024 on of the configuration memory (R186). -/
def profileRead (k : Fin 4) : ConfigRead := { addr := k.val * 1024, len := 1024 }

/-- The state right after power-on reset (R19, R39, R71, R82, R107, R138, R157, R167, R168), with the straps read as 0
(DESIGN CHOICE, log 12), the read of that profile begun (R169) and no command waiting. -/
def State.reset : State :=
  { loader := { state := .loading, strap := 0 }
    decoder := { control := Window.absent, slot := Window.absent, pack := Window.absent,
                 pass := Vector.replicate 4 Window.absent, openPassage := false }
    port := { awaiting := Vector.replicate 16 none, linkReset := false }
    queue := { sent := [], unsent := [], held := [], reads := [], probes := [] }
    slots := { table := Vector.replicate 512 .idle }
    coll := { classes := Vector.replicate 8 ClassRec.least, entries := [], extBase := 0, extCount := 0,
              lookupQ := [], search := none }
    lanes := { table := (Vector.replicate 32 Lane.unbound).set 0 { Lane.unbound with binding := .mixed },
               tick := 0, hold := 0 }
    frames := { table := Vector.replicate 1024 Frame.free, waitQ := [], exp := 0, nF := 0, floor := 0,
                straggler := 0, preamble := List.replicate 8 0 }
    copy := { period := 1, counter := 0, masks := Vector.replicate 4 0 }
    cmd := { frozen := false, attnMask := 0, nextSerial := 0, bridgeTime := 0, rewrites := 0 }
    notes := { pending := [], writing := .none, producer := 0, consumer := 0, lap := false,
               records := Vector.replicate 1024 none, lost := 0, faulted := false,
               tallies := Vector.replicate 16 0, strayOut := Vector.replicate 16 false,
               toClear := 1024, keptClears := [] }
    attention := false
    linkOut := []
    storeOut := []
    configOut := [profileRead 0]
    choice := 0
    pending := [] }

end Sys2Proof.Machine
end

