-- ==== Sys2Proof/Machine/Ops.lean ====
section
/-! DEFINITION. One event at work: the state, with what the event has made so far. And the named reads and updates of the
tables, which every block's actions go through. -/

namespace Sys2Proof.Machine

/-- The block that posts a notice, where two blocks may post in one event (R158). -/
inductive Poster where
  | path
  | lookup
  | lane
  | frame
deriving DecidableEq, Repr

/-- An event in progress: the state as it stands, the own writes made so far to be held under R13 (in the order made), the
notices posted so far (R158), whether R99 makes reservations at the end of the event, whether the frame-wait queue was
empty when the event began (R102), and whether the event's own writes must be held exactly in the order made (R111). -/
structure Ev extends State where
  made : List OwnWrite
  posted : List (Poster × Notice)
  reserveDue : Bool
  waitWasEmpty : Bool
  inOrder : Bool

/-- The beginning of an event. -/
def Ev.start (s : State) : Ev :=
  { toState := s, made := [], posted := [], reserveDue := false, waitWasEmpty := s.frames.waitQ.isEmpty, inOrder := false }

/-- Element `i` of a table replaced. -/
def put {α : Type} {n : Nat} (v : Vector α n) (i : Fin n) (x : α) : Vector α n := v.set i.val x i.isLt

/-! ### Reads -/

/-- The entry of slot `k` (R20). -/
def Ev.slot (e : Ev) (k : SlotNo) : SlotEntry := e.slots.table.get k

/-- The record of frame `n` (R88). -/
def Ev.frame (e : Ev) (n : FrameNo) : Frame := e.frames.table.get n

/-- Lane `l` (R82). -/
def Ev.lane (e : Ev) (l : LaneNo) : Lane := e.lanes.table.get l

/-- Class `c` (R68). -/
def Ev.classRec (e : Ev) (c : ClassNo) : ClassRec := e.coll.classes.get c

/-- The collection-table entry of a tag, if there is one (R71). -/
def Ev.entryOf (e : Ev) (t : Tag) : Option CollEntry := e.coll.entries.find? (fun c => c.tag == t)

/-! ### Updates -/

def Ev.setSlot (e : Ev) (k : SlotNo) (x : SlotEntry) : Ev :=
  { e with slots := { table := put e.slots.table k x } }

def Ev.setFrame (e : Ev) (n : FrameNo) (x : Frame) : Ev :=
  { e with frames := { e.frames with table := put e.frames.table n x } }

def Ev.setLane (e : Ev) (l : LaneNo) (x : Lane) : Ev :=
  { e with lanes := { e.lanes with table := put e.lanes.table l x } }

def Ev.setWaitQ (e : Ev) (q : List SlotNo) : Ev := { e with frames := { e.frames with waitQ := q } }

def Ev.setLookupQ (e : Ev) (q : List SlotNo) : Ev := { e with coll := { e.coll with lookupQ := q } }

def Ev.setSearch (e : Ev) (x : Option Search) : Ev := { e with coll := { e.coll with search := x } }

def Ev.setEntries (e : Ev) (x : List CollEntry) : Ev := { e with coll := { e.coll with entries := x } }

def Ev.setCopy (e : Ev) (x : CopyUnit) : Ev := { e with copy := x }

def Ev.setCmd (e : Ev) (x : CommandUnit) : Ev := { e with cmd := x }

def Ev.setNotes (e : Ev) (x : NoticeUnit) : Ev := { e with notes := x }

def Ev.setQueue (e : Ev) (x : StoreQueue) : Ev := { e with queue := x }

def Ev.setPort (e : Ev) (x : Port) : Ev := { e with port := x }

/-- An own write made by a block in an event of its own, to be held until an own entry is free (R13). -/
def Ev.hold (e : Ev) (w : OwnWrite) : Ev := { e with made := e.made ++ [w] }

/-- A notice posted; none is posted in LOADING or PASSIVE (R158). It holds the bridge time of the event. -/
def Ev.post (e : Ev) (from_ : Poster) (body : NoticeBody) : Ev :=
  if e.loader.state = .active then
    { e with posted := e.posted ++ [(from_, { time := e.cmd.bridgeTime, body := body })] }
  else e

/-- An answer given on the ingest link. -/
def Ev.answer (e : Ev) (r : Requester) (a : Answer) : Ev := { e with linkOut := e.linkOut ++ [{ r := r, answer := a }] }

/-- A request sent on the store port. -/
def Ev.send (e : Ev) (q : StoreRequest) : Ev := { e with storeOut := e.storeOut ++ [q] }

/-- R99 is to consider reservations at the end of this event. -/
def Ev.dueReserve (e : Ev) : Ev := { e with reserveDue := true }

/-! ### Store addresses -/

/-- The store address of a control-window offset (R6). -/
def State.controlAddr (s : State) (off : Nat) : Nat := s.decoder.control.store + off

/-- Bytes in a frame: 2 to the frame size exponent (R88). -/
def State.frameSize (s : State) : Nat := 2 ^ s.frames.exp

/-- The store address at which frame `n` begins (section 1.2). -/
def State.frameBase (s : State) (n : FrameNo) : Nat := s.decoder.pack.store + n.val * s.frameSize

/-- The control-window offset of slot record `k` (R179). -/
def slotRecordOff (k : SlotNo) : Nat := 0x1000 + k.val * 64

/-- The control-window offset of command cell `c` (R180). -/
def commandCellOff (c : CellNo) : Nat := 0x0400 + c.val * 64

/-- The control-window offset of confirm cell `c` (R181). -/
def confirmCellOff (c : CellNo) : Nat := 0x0800 + c.val * 64

/-- The control-window offset of ring entry `p` (R161). -/
def ringOff (p : RingPos) : Nat := 0x10000 + p.toNat * 32

/-! ### The store queue's counts -/

/-- Whether an entry is an upstream write. -/
def Entry.isUpstream (x : Entry) : Bool :=
  match x.origin with
  | .upstream _ _ _ => true
  | .own _ => false

/-- Entries that hold upstream writes (R11). -/
def StoreQueue.upCount (q : StoreQueue) : Nat := (q.sent ++ q.unsent).countP Entry.isUpstream

/-- Entries that hold own writes (R11). -/
def StoreQueue.ownCount (q : StoreQueue) : Nat := (q.sent ++ q.unsent).countP (fun x => !x.isUpstream)

/-- The entry of an own write; `r` is the requester whose write caused it, when it was made with one (R12, R13). -/
def OwnWrite.entry (w : OwnWrite) (r : Option Requester) : Entry :=
  { origin := .own w.kind, countsFor := r, addr := w.addr, data := w.data, cancelled := false }

/-- Held own writes enter the queue while own entries are free, oldest first (R13). -/
def StoreQueue.takeHeld (q : StoreQueue) : StoreQueue :=
  let n := 16 - q.ownCount
  { q with unsent := q.unsent ++ (q.held.take n).map (fun w => w.entry none), held := q.held.drop n }

/-- Whether an upstream write with `own` own writes made in the same event is taken (R12, R13): an upstream entry is free,
and as many own entries are free as it needs; while any held write waits, own entries go to it. -/
def StoreQueue.hasRoom (q : StoreQueue) (own : Nat) : Bool :=
  q.upCount < 48 && (own == 0 || (q.held.isEmpty && q.ownCount + own ≤ 16))

/-- Whether an unsent write counts as requester `r`'s (R12, R14). -/
def StoreQueue.owesTo (q : StoreQueue) (r : Requester) : Bool := q.unsent.any (fun x => x.countsFor == some r)

end Sys2Proof.Machine
end

