-- ==== Sys2Proof/Machine/Formats.lean ====
section
/-! DEFINITION. The records the part writes, byte by byte (R177 to R184), and the numeric codes in them (R178). -/

namespace Sys2Proof.Machine

/-! ### Codes (R178) -/

def SlotEntry.code : SlotEntry → Nat
  | .idle => 0
  | .lookup _ => 1
  | .waiting _ _ _ => 2
  | .filling _ _ _ _ => 3

def FrameState.code : FrameState → Nat
  | .free => 0
  | .reserved => 1
  | .opened => 2
  | .closing => 3
  | .sealing => 4
  | .sealed => 5
  | .held => 6

def SealReason.code : SealReason → Nat
  | .target => 1
  | .count => 2
  | .full => 3
  | .quiet => 4
  | .age => 5
  | .evicted => 6
  | .reclass => 7
  | .drain => 8
  | .reset => 9

/-- The code of a seal reason, 0 where there is none. -/
def reasonCode : Option SealReason → Nat
  | none => 0
  | some r => r.code

/-- The results a slot's status word carries (R33). -/
inductive SlotResult where
  | placed
  | queuedLookup
  | queuedFrame
  | ended
  | busy
  | foreign
  | notOpen
  | badLength
  | tooLarge
deriving DecidableEq, Repr

def SlotResult.code : SlotResult → Nat
  | .placed => 1
  | .queuedLookup => 2
  | .queuedFrame => 3
  | .ended => 4
  | .busy => 5
  | .foreign => 6
  | .notOpen => 7
  | .badLength => 8
  | .tooLarge => 9

/-- The status of a command (R142). -/
inductive CmdStatus where
  | done
  | frozen
  | badArgument
  | notFound
  | tableFull
  | notHeld
deriving DecidableEq, Repr

def CmdStatus.code : CmdStatus → Nat
  | .done => 1
  | .frozen => 2
  | .badArgument => 3
  | .notFound => 4
  | .tableFull => 5
  | .notHeld => 6

/-- The status of a confirm (R129). -/
inductive ConfirmStatus where
  | confirmed
  | badFrame
  | notSealed
  | wrongPack
  | notAssigned
  | noDigest
  | mismatch
deriving DecidableEq, Repr

def ConfirmStatus.code : ConfirmStatus → Nat
  | .confirmed => 1
  | .badFrame => 2
  | .notSealed => 3
  | .wrongPack => 4
  | .notAssigned => 5
  | .noDigest => 6
  | .mismatch => 7

/-- Entry states (R52, R53). -/
inductive EntryState where
  | complete
  | incomplete
  | unverified
  | abandoned
deriving DecidableEq, Repr

def EntryState.code : EntryState → Nat
  | .complete => 1
  | .incomplete => 2
  | .unverified => 3
  | .abandoned => 4

/-- End reasons (R28). -/
inductive EndReason where
  | covered
  | closed
  | forced
  | reset
  | abandoned
deriving DecidableEq, Repr

def EndReason.code : EndReason → Nat
  | .covered => 1
  | .closed => 2
  | .forced => 3
  | .reset => 4
  | .abandoned => 5

/-- Digest states (R52, R53). -/
inductive DigestState where
  | valid
  | partly
  | unchecked
  | void
  | absent
deriving DecidableEq, Repr

def DigestState.code : DigestState → Nat
  | .valid => 1
  | .partly => 2
  | .unchecked => 3
  | .void => 4
  | .absent => 5

def NoticeKind.code : NoticeKind → Nat
  | .storeFault => 1
  | .packHeld => 2
  | .framesExhausted => 3
  | .packSealed => 4
  | .packReleased => 5
  | .framesAvailable => 6
  | .stray => 7
  | .protect => 8
  | .malformed => 9
  | .lookupFault => 10
  | .laneEvicted => 11
  | .confirmRefused => 12
  | .resetDone => 13

/-- URGENT kinds (R158). -/
def NoticeKind.urgent : NoticeKind → Bool
  | .storeFault | .packHeld | .framesExhausted => true
  | .packSealed | .packReleased | .framesAvailable | .stray | .protect | .malformed | .lookupFault
  | .laneEvicted | .confirmRefused | .resetDone => false

/-- The attention-mask bit of a ROUTINE kind: kinds 4..13 have bits 0..9 (R178). -/
def NoticeKind.maskBit (k : NoticeKind) : Nat := k.code - 4

def NoticeBody.kind : NoticeBody → NoticeKind
  | .storeFault _ _ => .storeFault
  | .packHeld _ _ _ => .packHeld
  | .framesExhausted _ _ _ => .framesExhausted
  | .packSealed _ _ _ _ _ _ _ _ _ _ => .packSealed
  | .packReleased _ _ _ _ _ => .packReleased
  | .framesAvailable _ => .framesAvailable
  | .stray _ _ _ => .stray
  | .protect _ _ _ => .protect
  | .malformed _ _ _ => .malformed
  | .lookupFault _ _ _ => .lookupFault
  | .laneEvicted _ _ _ => .laneEvicted
  | .confirmRefused _ _ _ _ _ _ => .confirmRefused
  | .resetDone _ _ => .resetDone

/-- The requester of a STRAY notice (R38). -/
def NoticeBody.strayOf : NoticeBody → Option Requester
  | .stray r _ _ => some r
  | _ => none

def Notice.kind (n : Notice) : NoticeKind := n.body.kind

/-- A notice of an URGENT kind (R158). -/
def Notice.urgent (n : Notice) : Bool := n.kind.urgent

/-! ### Digests (R57) -/

/-- The digest word of a pair of sums: P in the upper half, S in the lower (R57). -/
def Acc.digest (a : Acc) : Digest := BitVec.ofNat 32 (a.p * 65536 + a.s)

/-! ### Slot status word (R179) -/

/-- The file fields of a status word: frame, entry number and pack serial (R33). -/
structure StatusPlace where
  frame : FrameNo
  entry : Nat
  serial : Nat
deriving DecidableEq, Repr

/-- The 32-byte status word at bytes 32..63 of a slot record (R33, R179). -/
def slotStatusBytes (state : Nat) (result : SlotResult) (req : Byte) (entryState : Nat) (place : Option StatusPlace)
    (digest : Digest) : List Byte :=
  record 32 ([(0, le 1 state), (1, le 1 result.code), (2, [req]), (3, le 1 entryState)]
    ++ (match place with
        | none => []
        | some p => [(4, le 2 p.entry), (6, le 2 p.frame.val), (8, le 6 p.serial)])
    ++ [(16, le 4 digest.toNat)])

/-- The own write of slot `k`'s status word (R33). -/
def State.statusWrite (s : State) (k : SlotNo) (state : Nat) (result : SlotResult) (req : Byte) (entryState : Nat)
    (place : Option StatusPlace) (digest : Digest) : OwnWrite :=
  { kind := .statusWord k, addr := s.controlAddr (slotRecordOff k + 32),
    data := slotStatusBytes state result req entryState place digest }

/-! ### Command and confirm status (R180, R181) -/

/-- A command's status, its 8 result bytes, and whether it rewrites the description record (R142, R156). -/
structure CmdResult where
  status : CmdStatus
  result : List Byte
deriving DecidableEq, Repr

/-- The own write of a command cell's status word (R142, R180). -/
def State.commandStatusWrite (s : State) (c : CellNo) (req code : Byte) (r : CmdResult) : OwnWrite :=
  { kind := .commandStatus c, addr := s.controlAddr (commandCellOff c + 48),
    data := record 16 [(0, le 1 r.status.code), (1, [req]), (2, [code]), (3, le 1 (bit s.cmd.frozen)), (4, r.result)] }

/-- The own write of a confirm cell's status word (R137, R181). -/
def State.confirmStatusWrite (s : State) (c : CellNo) (req : Byte) (status : ConfirmStatus) (state : FrameState)
    (confirmed : PoolSet) (mismatches : Nat) : OwnWrite :=
  { kind := .confirmStatus c, addr := s.controlAddr (confirmCellOff c + 48),
    data := record 16 [(0, le 1 status.code), (1, [req]), (2, le 1 state.code), (3, le 1 confirmed.toNat),
      (4, le 1 mismatches)] }

/-! ### Pack header and index entry (R183) -/

/-- B0 = 512 + F x 64 (R90). -/
def Params.bodyStart (p : Params) : Nat := 512 + p.files * 64

/-- The 512-byte header block (R183), from the frame record, with the state code and seal time given. -/
def State.headerBytes (s : State) (n : FrameNo) (f : Frame) (stateCode : Nat) (sealTime : Nat) : List Byte :=
  record 512
    [(0, s.frames.preamble), (8, le 1 stateCode), (9, le 1 f.lane.val), (10, le 2 n.val), (12, le 6 f.serial),
     (18, le 1 f.cls.val), (19, le 1 (bit f.fault + 2 * bit f.forced + 4 * bit f.mixed)),
     (20, le 2 f.params.files), (22, le 2 f.params.align), (24, le 2 f.params.target), (26, le 2 f.params.quiet),
     (28, le 2 f.params.age), (30, le 1 f.params.copies), (31, le 1 (reasonCode f.reason)),
     (32, le 4 (if f.mixed then 0 else f.tag.toNat)), (36, le 6 f.openTime.toNat), (42, le 6 sealTime),
     (48, le 2 f.count), (50, le 1 f.assigned.toNat), (52, le 4 f.body.digest.toNat), (56, le 4 f.index.digest.toNat),
     (60, le 8 (f.params.bodyStart + f.fill))]

/-- The header write made when frame `n` goes OPEN with record `f` (R91): state OPEN, seal time zero. -/
def State.openHeaderWrite (s : State) (n : FrameNo) (f : Frame) : OwnWrite :=
  { kind := .openHeader n f.serial, addr := s.frameBase n, data := s.headerBytes n f FrameState.opened.code 0 }

/-- The seal header of frame `n` with record `f` (R119): SEALED if FAULT is clear, HELD if it is set. -/
def State.sealHeaderWrite (s : State) (n : FrameNo) (f : Frame) : OwnWrite :=
  { kind := .sealHeader n f.serial, addr := s.frameBase n,
    data := s.headerBytes n f (if f.fault then FrameState.held.code else FrameState.sealed.code)
      s.cmd.bridgeTime.toNat }

/-- What an index entry says of the end of a file (R28, R52, R53): the missing bytes are none when unknown. -/
structure EndReport where
  state : EntryState
  missing : Option Nat
  digestState : DigestState
deriving DecidableEq, Repr

/-- The 64 bytes of an index entry (R28, R183). -/
def indexEntryBytes (f : File) (slot : SlotNo) (place : Placement) (reason : EndReason) (r : EndReport)
    (time : Seconds) : List Byte :=
  record 64
    [(0, le 6 f.intent.serial), (6, le 1 r.state.code), (7, le 1 reason.code), (8, le 4 f.intent.tag.toNat),
     (12, le 4 f.intent.length), (16, le 8 f.intent.nameDigest), (24, le 4 place.offset), (28, le 1 f.owner.val),
     (29, le 1 r.digestState.code), (30, le 2 slot.val), (32, le 4 (r.missing.getD 0)),
     (36, le 4 (if r.digestState = .absent then 0 else f.acc.digest.toNat)),
     (40, le 1 (bit f.account.overrun + 2 * bit f.account.storeFault + 4 * bit r.missing.isNone)),
     (44, le 4 f.account.overrunCount), (48, le 6 time.toNat)]

/-! ### Notice entry (R182) -/

/-- The frame word of a kind that names a frame, at bytes 9..10. -/
def frameWord (n : FrameNo) : Nat × List Byte := (9, le 2 n.val)

/-- A pack serial, at bytes 26..31. -/
def serialField (serial : Nat) : Nat × List Byte := (26, le 6 serial)

/-- The fields of a STORE_FAULT notice by the write it reports, but for the store address (R182). -/
def FaultedWrite.fields : FaultedWrite → List (Nat × List Byte)
  | .upstream r len => [(11, le 1 1), (12, le 1 r.val), (22, le 2 len)]
  | .slotData r slot frame len =>
      [frameWord frame, (11, le 1 2), (12, le 1 r.val), (13, le 2 slot.val), (22, le 2 len)]
  | .statusWord slot => [(11, le 1 3), (13, le 2 slot.val)]
  | .openHeader frame serial => [frameWord frame, (11, le 1 4), serialField serial]
  | .indexEntry frame entry serial => [frameWord frame, (11, le 1 5), (15, le 2 entry), serialField serial]
  | .sealHeader frame serial => [frameWord frame, (11, le 1 6), serialField serial]
  | .confirmStatus cell => [(11, le 1 7), (12, le 1 cell.val)]
  | .commandStatus cell => [(11, le 1 8), (12, le 1 cell.val)]
  | .description => [(11, le 1 9)]

/-- The source byte, and the frame word where a frame is named, of a PROTECT notice (R182). -/
def ProtectCause.fields : ProtectCause → List (Nat × List Byte)
  | .notFree frame => [frameWord frame, (11, le 1 1)]
  | .tail => [(11, le 1 2)]
  | .readOnly => [(11, le 1 3)]
  | .region => [(11, le 1 4)]
  | .cancelled frame => [frameWord frame, (11, le 1 5)]

/-- The source byte of a MALFORMED notice (R182). -/
def MalformedCause.source : MalformedCause → Nat
  | .request => 1
  | .form => 2
  | .code => 3

/-- The store address field of a LOOKUP_FAULT: the probe's address, or a free value where it does not fit (log 17). -/
def probeAddrField (addr : Nat) : Nat := if addr < 2 ^ 40 then addr else Config.beyondStoreField addr

/-- The fields of a notice from byte 9 on (R182). -/
def NoticeBody.fields : NoticeBody → List (Nat × List Byte)
  | .storeFault write addr => write.fields ++ [(17, le 5 addr)]
  | .packHeld frame serial mismatch => [frameWord frame, (11, le 1 (if mismatch then 2 else 1)), serialField serial]
  | .framesExhausted lane slot kept => [(11, le 1 lane.val), (13, le 2 slot.val), (15, le 2 kept)]
  | .packSealed frame lane forced reason count tag length assigned digest serial =>
      [(9, le 2 (frame.val + 1024 * lane.val + 32768 * bit forced)), (11, le 1 (reasonCode reason)), (12, le 2 count),
       (14, le 4 tag.toNat), (18, le 4 (length / 64 + 2 ^ 27 * assigned.toNat)), (22, le 4 digest.toNat),
       serialField serial]
  | .packReleased frame serial discarded assigned confirmed =>
      [frameWord frame, (11, le 1 (if discarded then 2 else 1)), (12, le 1 (assigned.toNat + 16 * confirmed.toNat)),
       serialField serial]
  | .framesAvailable free => [(15, le 2 free)]
  | .stray r tally addr => [(12, le 1 r.val), (13, le 2 tally), (17, le 6 addr.toNat)]
  | .protect cause r addr => cause.fields ++ [(12, le 1 r.val), (17, le 6 addr.toNat)]
  | .malformed cause r addr => [(11, le 1 cause.source), (12, le 1 r.val), (17, le 6 addr.toNat)]
  | .lookupFault slot addr tag => [(13, le 2 slot.val), (17, le 5 (probeAddrField addr)), (23, le 4 tag.toNat)]
  | .laneEvicted lane oldTag newTag =>
      [(11, le 1 lane.val), (12, le 1 1), (13, le 4 oldTag.toNat), (17, le 4 newTag.toNat)]
  | .confirmRefused frame pool mismatches digest own serial =>
      [frameWord frame, (11, le 1 pool), (12, le 1 mismatches), (13, le 4 digest.toNat), (17, le 4 own.toNat),
       serialField serial]
  | .resetDone link profile => [(11, le 1 (if link then 2 else 1)), (12, le 1 profile)]

/-- The 32 bytes of a ring entry (R182): the notice with its lap bit and the lost-notice count it carries. -/
def Notice.bytes (n : Notice) (lap : Bool) (lost : Nat) : List Byte :=
  record 32 ([(0, le 1 (n.kind.code + 64 * bit n.kind.urgent + 128 * bit lap)), (1, le 2 lost), (3, le 6 n.time.toNat)]
    ++ n.body.fields)

/-! ### Description record and passive record (R184) -/

/-- The twelve bytes of a window in the description record (R184); the size exponent is 0 for an absent window. The base
divided by 4,096 is rounded down, which matters for an absent pass window alone: DESIGN CHOICE, unsafe (log 32). -/
def Window.describe (w : Window) : List Byte :=
  record 12 [(0, le 5 (w.base / 4096)), (5, le 1 (if w.size = 0 then 0 else w.size.log2)), (6, le 1 (bit w.readOnly)),
    (7, le 5 w.store)]

/-- The windows in decode order (R5, R171). -/
def Decoder.all (d : Decoder) : List Window := [d.control, d.slot, d.pack] ++ d.pass.toList

/-- The twelve bytes of a class in the description record. -/
def ClassRec.describe (c : ClassRec) : List Byte :=
  record 12 [(0, le 1 (bit c.ownLane)), (1, le 1 c.params.copies), (2, le 2 c.params.target), (4, le 2 c.params.files),
    (6, le 2 c.params.align), (8, le 2 c.params.quiet), (10, le 2 c.params.age)]

/-- The 256-byte description record from the values as they stand, with the rewrite count given (R155, R184). -/
def State.descriptionBytes (s : State) (rewrites : BitVec 32) : List Byte :=
  record 256
    [(0, le 2 1), (2, le 2 0x2410), (4, le 1 s.loader.strap.val), (5, le 1 (bit s.cmd.frozen)),
     (6, le 2 s.cmd.attnMask.toNat), (8, le 4 rewrites.toNat), (12, le 1 s.frames.exp),
     (13, le 1 (bit s.decoder.openPassage)), (14, le 2 s.frames.nF), (16, (s.decoder.all.map Window.describe).flatten),
     (100, le 2 s.lanes.hold), (102, le 1 s.frames.floor), (103, le 1 s.copy.period), (104, le 2 s.frames.straggler),
     (108, s.frames.preamble), (116, (s.copy.masks.toList.map (fun m => le 2 m.toNat)).flatten),
     (124, le 5 s.coll.extBase), (132, le 4 s.coll.extCount),
     (136, (s.coll.classes.toList.map ClassRec.describe).flatten)]

/-- The 64-byte passive record (R175, R184). -/
def passiveRecordBytes (strap code detail1 detail2 check digest : Nat) : List Byte :=
  record 64
    [(0, le 2 2), (2, le 2 0x2410), (4, le 1 strap), (5, le 1 code), (8, le 8 detail1), (16, le 8 detail2),
     (24, le 4 check), (28, le 4 digest)]

end Sys2Proof.Machine
end

