-- ==== Sys2Proof/Machine/Flags.lean ====
section
/-! DEFINITION. The part's flags and levels computed from its state: exhausted serials, counts of frames, the ring's unconsumed
count, the attention line (R166), and room in the store queue for an upstream write. -/

namespace Sys2Proof.Machine

/-- The serials are exhausted: 2^48 - 1 has been given out (R97, R149). -/
def State.exhausted (s : State) : Bool := 2 ^ 48 ≤ s.cmd.nextSerial

/-- The frames 0..N_F - 1, ascending (R88). -/
def State.frameNos (s : State) : List FrameNo := (List.finRange 1024).filter (fun n => n.val < s.frames.nF)

/-- The number of frames in state `x`. -/
def State.countFrames (s : State) (x : FrameState) : Nat :=
  s.frameNos.countP (fun n => (s.frames.table.get n).state == x)

/-- The lowest-numbered FREE frame (R93, R99, R104). -/
def State.lowestFree (s : State) : Option FrameNo :=
  s.frameNos.find? (fun n => (s.frames.table.get n).state == .free)

/-- The seconds from reading `t` to the tick count, modulo 2^48 (R82). -/
def State.since (s : State) (t : Seconds) : Nat := (s.lanes.tick - t).toNat

/-- The unconsumed count of the ring (R161). -/
def NoticeUnit.unconsumed (u : NoticeUnit) : Nat := (u.producer - u.consumer).toNat

/-- Whether a notice of kind `k` raises the line while pending or unconsumed (R151, R166). -/
def raisesLine (mask : BitVec 16) (k : NoticeKind) : Bool := k.urgent || mask.getLsbD k.maskBit

/-- The kinds recorded at `n` ring positions from `p` on raise the line (R166). -/
def NoticeUnit.ringRaises (u : NoticeUnit) (mask : BitVec 16) : Nat → RingPos → Bool
  | 0, _ => false
  | n + 1, p =>
    (match u.records.get p.toFin with
     | some r => raisesLine mask r.kind
     | none => false) || u.ringRaises mask n (p + 1)

/-- The level of the attention line (R166): deasserted in LOADING, asserted throughout PASSIVE. -/
def State.attentionLevel (s : State) : Bool :=
  match s.loader.state with
  | .loading => false
  | .passive => true
  | .active =>
    s.notes.pending.any (fun n => raisesLine s.cmd.attnMask n.kind)
      || s.notes.ringRaises s.cmd.attnMask s.notes.unconsumed s.notes.consumer
      || s.notes.faulted

end Sys2Proof.Machine
end

