-- ==== Sys2Proof/Machine/Copy.lean ====
section
/-! DEFINITION. The copy unit's pattern: the pools a seal is assigned (R125, R126). -/

namespace Sys2Proof.Machine

/-- The set of one pool. -/
def onePool (p : PoolNo) : PoolSet := BitVec.ofNat 4 (2 ^ p.val)

/-- The number of members of a pool set. -/
def poolCount (s : PoolSet) : Nat := (List.finRange 4).countP (fun p => s.getLsbD p.val)

/-- The pools whose mask names position `c` (R126 step 1). -/
def CopyUnit.named (u : CopyUnit) (c : Nat) : PoolSet :=
  (List.finRange 4).foldl (fun s p => if (u.masks.get p).getLsbD c then s ||| onePool p else s) 0

/-- While the set has fewer members than `k`, the lowest-numbered pool not yet in it is added (R126 step 2). -/
def fillPools (k : Nat) (s : PoolSet) : PoolSet :=
  (List.finRange 4).foldl (fun s p => if poolCount s < k && !s.getLsbD p.val then s ||| onePool p else s) s

/-- The pools the next seal of a pack with minimum copies `k` is assigned (R126 steps 1 and 2). -/
def CopyUnit.assign (u : CopyUnit) (k : Nat) : PoolSet := fillPools k (u.named u.counter)

/-- The counter moved to the next position of the cycle (R126 step 3). -/
def CopyUnit.advance (u : CopyUnit) : CopyUnit := { u with counter := (u.counter + 1) % u.period }

end Sys2Proof.Machine
end

