-- ==== Sys2Proof/Machine/Digest.lean ====
section
/-! DEFINITION. The digest arithmetic (chapter 4): sums modulo 65,521. -/

namespace Sys2Proof.Machine

/-- The digest modulus M (R56). -/
def digestModulus : Nat := 65521

/-- One byte `b` at offset `i` added: its value to S, its value times the weight (i + 1) mod M to P (R59, R61). -/
def Acc.addByte (a : Acc) (i : Nat) (b : Byte) : Acc :=
  { s := (a.s + b.toNat % digestModulus) % digestModulus,
    p := (a.p + ((i + 1) % digestModulus) * b.toNat % digestModulus) % digestModulus }

/-- The contribution of bytes lying at offsets o, o + 1, ... added to a pair of sums (R59). -/
def Acc.addBytes : Acc → Nat → List Byte → Acc
  | a, _, [] => a
  | a, o, b :: bs => (a.addByte o b).addBytes (o + 1) bs

/-- The digest of a list of bytes as R59 forms a file's digest (R168). -/
def digestOf (bytes : List Byte) : Digest := (Acc.zero.addBytes 0 bytes).digest

/-- The fold of a file with sums `f` at body offset `d` into a pair of sums (R64). -/
def Acc.fold (a f : Acc) (d : Nat) : Acc :=
  { s := (a.s + f.s) % digestModulus,
    p := (a.p + f.p + (d % digestModulus) * f.s % digestModulus) % digestModulus }

/-- The sums a digest was formed from (R57). -/
def Acc.ofDigest (d : Digest) : Acc := { s := d.toNat % 65536, p := d.toNat / 65536 }

/-- Whether an ended file is folded into the body sums (R64). -/
def DigestState.folded : DigestState → Bool
  | .valid | .partly | .unchecked => true
  | .void | .absent => false

end Sys2Proof.Machine
end

