-- ==== Sys2Proof/Machine/Frames.lean ====
section
/-! DEFINITION. The frame table and placement unit (chapters 6 and 7): closing, sealing, opening, placing, standby frames and
the frame-wait queue. -/

namespace Sys2Proof.Machine

/-! ### Closing and sealing -/

/-- The seal of frame `n` begins (R118, R126): SEALING, pools assigned, header formed and held. -/
def Ev.beginSeal (e : Ev) (n : FrameNo) : Ev :=
  let f := e.frame n
  let f := { f with state := .sealing, assigned := e.copy.assign f.params.copies, confirmed := 0, mismatches := 0 }
  ((e.setFrame n f).setCopy e.copy.advance).hold (e.sealHeaderWrite n f)

/-- A CLOSING frame with no file in flight goes SEALING (R116). -/
def Ev.sealIfEmpty (e : Ev) (n : FrameNo) : Ev :=
  if (e.frame n).state = .closing ∧ (e.frame n).inFlight = 0 then e.beginSeal n else e

/-- The lane of frame `n` holds no OPEN frame afterwards (R110 step 3). -/
def Ev.dropOpen (e : Ev) (n : FrameNo) : Ev :=
  let l := (e.frame n).lane
  if (e.lane l).openFrame = some n then e.setLane l { e.lane l with openFrame := none } else e

/-- Steps 1 to 4 of R110: an OPEN frame goes CLOSING for the reason given; a frame in another state is left alone. -/
def Ev.toClosing (e : Ev) (n : FrameNo) (reason : SealReason) : Ev :=
  if (e.frame n).state = .opened then
    (e.setFrame n { e.frame n with state := .closing, reason := some reason, closeTick := e.lanes.tick }).dropOpen n
  else e

/-- A cause of closing taken for frame `n` (R110). -/
def Ev.closeFrame (e : Ev) (n : FrameNo) (reason : SealReason) : Ev := (e.toClosing n reason).sealIfEmpty n

/-- The closing of a lane's OPEN frame, if it holds one (R84, R85, R93). -/
def Ev.closeLane (e : Ev) (l : LaneNo) (reason : SealReason) : Ev :=
  match (e.lane l).openFrame with
  | some n => e.closeFrame n reason
  | none => e

/-- Frame `n` becomes FREE with its record cleared (R89, R100, R132); R99 follows. -/
def Ev.freeFrame (e : Ev) (n : FrameNo) : Ev := (e.setFrame n Frame.free).dueReserve

/-- A lane's RESERVED frame, if it holds one, returns to FREE (R100). -/
def Ev.returnReserved (e : Ev) (l : LaneNo) : Ev :=
  match (e.lane l).reserved with
  | some n => (e.setLane l { e.lane l with reserved := none }).freeFrame n
  | none => e

/-! ### Leaving FREE -/

/-- The mark of R98 on an unsent upstream pack-window write to frame `n`. -/
def Entry.cancelFor (n : FrameNo) (x : Entry) : Entry :=
  match x.origin with
  | .upstream _ (.pack m) _ => if m = n then { x with cancelled := true } else x
  | _ => x

/-- Unsent pack-window writes to a frame leaving FREE are cancelled (R98). -/
def Ev.cancelWrites (e : Ev) (n : FrameNo) : Ev :=
  e.setQueue { e.queue with unsent := e.queue.unsent.map (Entry.cancelFor n) }

/-- The class of the packs of a lane: class 0 for lane 0, the lane's class for the others (R82, R96). -/
def Lane.packClass (l : Lane) : ClassNo :=
  match l.binding with
  | .collection _ c => c
  | _ => 0

/-- The collection tag of the packs of a lane; zero stands for MIXED (R96). -/
def Lane.packTag (l : Lane) : Tag :=
  match l.binding with
  | .collection t _ => t
  | _ => 0

/-- The record of a frame that goes OPEN for lane `l` (R96). -/
def Ev.openRecord (e : Ev) (l : LaneNo) : Frame :=
  { Frame.free with
    state := .opened, lane := l, serial := e.cmd.nextSerial, cls := (e.lane l).packClass,
    params := (e.classRec (e.lane l).packClass).params, tag := (e.lane l).packTag, mixed := l = 0,
    openTick := e.lanes.tick, openTime := e.cmd.bridgeTime, lastPlace := e.lanes.tick }

/-- A new pack is opened in frame `n` for lane `l` (R96, R97): the next serial is taken, the record made, the lane's OPEN
frame set, and the header held; R98 applies when it came from FREE, and R99 follows. -/
def Ev.openPack (e : Ev) (n : FrameNo) (l : LaneNo) : Ev :=
  let f := e.openRecord l
  let lane := e.lane l
  let e' := if lane.reserved = some n then e else e.cancelWrites n
  (((((e'.setFrame n f).setLane l
      { lane with openFrame := some n, reserved := if lane.reserved = some n then none else lane.reserved }).setCmd
    { e.cmd with nextSerial := e.cmd.nextSerial + 1 }).hold (e.openHeaderWrite n f))).dueReserve

/-! ### Placing a file -/

/-- The allocation of a file of declared length `length`: ceil(L / A) x A (R94). -/
def allocation (length align : Nat) : Nat := (length + align - 1) / align * align

/-- The body capacity C of a pack (R90). -/
def State.capacity (s : State) (p : Params) : Nat := s.frameSize - p.bodyStart

/-- A file fits in a pack (R94). -/
def State.fits (s : State) (f : Frame) (length : Nat) : Bool :=
  f.count < f.params.files && f.fill + allocation length f.params.align ≤ s.capacity f.params

/-- The entry of a tag moves to the most recent place, if the table holds one (R86). -/
def Ev.touchEntry (e : Ev) (t : Tag) : Ev :=
  match e.entryOf t with
  | some c => e.setEntries (c :: e.coll.entries.filter (fun x => x.tag != t))
  | none => e

/-- A lane's last-placement time becomes the tick count; lane 0 keeps none (R86). -/
def Ev.touchLane (e : Ev) (l : LaneNo) : Ev :=
  if l = 0 then e else e.setLane l { e.lane l with lastPlace := e.lanes.tick }

/-- The pack's closing test after a placement (R95). -/
def Ev.testTarget (e : Ev) (n : FrameNo) : Ev :=
  let f := e.frame n
  if f.params.target * 1048576 ≤ f.fill then e.closeFrame n .target
  else if f.params.files ≤ f.count then e.closeFrame n .count
  else e

/-- The frame's record after a placement (R94). -/
def Frame.placed (f : Frame) (length : Nat) (tick : Seconds) : Frame :=
  { f with fill := f.fill + allocation length f.params.align, count := f.count + 1, inFlight := f.inFlight + 1,
           lastPlace := tick }

/-- Slot `k`'s file placed in frame `n` of lane `l` (R94, R86, R95): the slot goes to FILLING. -/
def Ev.place (e : Ev) (k : SlotNo) (f : File) (c : ClassNo) (l : LaneNo) (n : FrameNo) : Ev :=
  let fr := e.frame n
  (((((e.setFrame n (fr.placed f.intent.length e.lanes.tick)).setSlot k
      (.filling f c l { frame := n, entry := fr.count, offset := fr.fill })).touchLane l).touchEntry f.intent.tag)).testTarget n

/-! ### The slot's status word -/

/-- The place fields of a FILLING slot's status word (R25, R33). -/
def Ev.statusPlace (e : Ev) (p : Placement) : StatusPlace :=
  { frame := p.frame, entry := p.entry, serial := (e.frame p.frame).serial }

/-- The status word of slot `k` as it stands, with the result and request number given (R33): place fields in FILLING. -/
def Ev.statusOf (e : Ev) (k : SlotNo) (result : SlotResult) (req : Byte) : OwnWrite :=
  match e.slot k with
  | .filling _ _ _ p => e.statusWrite k 3 result req 0 (some (e.statusPlace p)) 0
  | x => e.statusWrite k x.code result req 0 none 0

/-- The status word by which the part reports a slot's own event: PLACED, QUEUED_FRAME or QUEUED_LOOKUP by its state, with
the slot's last request number (R24, R31, R32, R33). -/
def Ev.reportOf (e : Ev) (k : SlotNo) : OwnWrite :=
  match e.slot k with
  | .filling f _ _ _ => e.statusOf k .placed f.lastReq
  | .waiting f _ _ => e.statusOf k .queuedFrame f.lastReq
  | .lookup f => e.statusOf k .queuedLookup f.lastReq
  | .idle => e.statusOf k .ended 0

/-- Whether an own write is slot `k`'s status word. -/
def OwnWrite.isStatusOf (k : SlotNo) (w : OwnWrite) : Bool := w.kind == .statusWord k

/-- Slot `k`'s report made to be held; it stands for the slot's state at the end of the event, so it takes the place of one
made for the slot earlier in the event (R33, R93; log 16). -/
def Ev.holdReport (e : Ev) (k : SlotNo) : Ev :=
  { e with made := e.made.filter (fun w => !w.isStatusOf k) ++ [e.reportOf k] }

/-! ### The frame-wait queue -/

/-- The lane recorded for a WAITING slot (R101). -/
def Ev.waitsFor (e : Ev) (k : SlotNo) (l : LaneNo) : Bool :=
  match e.slot k with
  | .waiting _ _ m => m == l
  | _ => false

/-- Slot `k` leaves the frame-wait queue. -/
def Ev.leaveWait (e : Ev) (k : SlotNo) : Ev := e.setWaitQ (e.frames.waitQ.filter (fun j => j != k))

/-- A walk in progress: the event, whether the granted frame has been opened, and the slots placed. -/
structure Walk where
  ev : Ev
  used : Bool
  placed : List SlotNo

/-- The walk of a grant of frame `g` to lane `l` over the lane's waiting slots (R105). While the serials are exhausted a
grant places slots only in packs already OPEN (R97; log 15). -/
def Walk.run (g : FrameNo) (l : LaneNo) : List SlotNo → Walk → Walk
  | [], w => w
  | k :: ks, w =>
    match w.ev.slot k with
    | .waiting f c _ =>
      match (w.ev.lane l).openFrame with
      | some n =>
        if w.ev.fits (w.ev.frame n) f.intent.length then
          run g l ks { w with ev := (w.ev.leaveWait k).place k f c l n, placed := w.placed ++ [k] }
        else if w.used || w.ev.exhausted then w
        else
          run g l ks { ev := ((((w.ev.closeFrame n .full).openPack g l).leaveWait k).place k f c l g),
                       used := true, placed := w.placed ++ [k] }
      | none =>
        if w.used || w.ev.exhausted then w
        else run g l ks { ev := ((w.ev.openPack g l).leaveWait k).place k f c l g, used := true, placed := w.placed ++ [k] }
    | _ => run g l ks w

/-- One grant (R104, R105): the lowest-numbered FREE frame `g` to the lane of the head; the reports of the slots placed are
held behind the header, in queue order. The slots placed are none when nothing could be placed. -/
def Ev.grantOne (e : Ev) (g : FrameNo) : Ev × List SlotNo :=
  match e.frames.waitQ with
  | [] => (e, [])
  | k :: _ =>
    match e.slot k with
    | .waiting _ _ l =>
      let w := Walk.run g l (e.frames.waitQ.filter (fun j => e.waitsFor j l)) { ev := e, used := false, placed := [] }
      (w.placed.foldl Ev.holdReport w.ev, w.placed)
    | _ => (e, [])

/-- Grants follow one another until the queue is empty, no frame is FREE, or a grant places no slot (R104). -/
def Ev.grants : Nat → Ev → Ev
  | 0, e => e
  | n + 1, e =>
    match e.frames.waitQ, e.lowestFree with
    | [], _ => e
    | _, none => e
    | _, some g =>
      match e.grantOne g with
      | (e', []) => e'
      | (e', _ :: _) => e'.grants n

/-- The grants of an event; each places at least one waiting slot or is the last. -/
def Ev.grantAll (e : Ev) : Ev := e.grants (e.frames.waitQ.length + 1)

/-- Every RESERVED frame of every lane returns to FREE (R103). -/
def Ev.surrender (e : Ev) : Ev := (List.finRange 32).foldl Ev.returnReserved e

/-- Slot `k` joins the tail of the frame-wait queue for lane `l` (R93, R101); R103 and R104 act in the same event. -/
def Ev.joinWait (e : Ev) (k : SlotNo) (f : File) (c : ClassNo) (l : LaneNo) : Ev :=
  let wasEmpty := e.frames.waitQ.isEmpty
  let e := (e.setSlot k (.waiting f c l)).setWaitQ (e.frames.waitQ ++ [k])
  (if wasEmpty && !e.exhausted then e.surrender else e).grantAll

/-- A frame for a new pack of lane `l`: its RESERVED frame, else the lowest-numbered FREE frame; none while the serials are
exhausted (R93, R97). -/
def Ev.frameFor (e : Ev) (l : LaneNo) : Option FrameNo :=
  if e.exhausted then none
  else match (e.lane l).reserved with
    | some n => some n
    | none => e.lowestFree

/-- Case 3 of R93 after the closing: a new pack, or the frame-wait queue. -/
def Ev.openOrWait (e : Ev) (k : SlotNo) (f : File) (c : ClassNo) (l : LaneNo) : Ev :=
  match e.frameFor l with
  | some g => (e.openPack g l).place k f c l g
  | none => e.joinWait k f c l

/-- The route of slot `k`'s file to its lane (R93). -/
def Ev.route (e : Ev) (k : SlotNo) (f : File) (c : ClassNo) (l : LaneNo) : Ev :=
  if e.frames.waitQ.any (fun j => e.waitsFor j l) then e.joinWait k f c l
  else match (e.lane l).openFrame with
    | some n =>
      if e.fits (e.frame n) f.intent.length then e.place k f c l n
      else (e.closeFrame n .full).openOrWait k f c l
    | none => e.openOrWait k f c l

/-! ### Standby frames and the queue's notices -/

/-- Whether lane `l` is given a reservation as things stand (R99). -/
def Ev.mayReserve (e : Ev) (l : LaneNo) : Bool :=
  (e.lane l).binding != .unbound && (e.lane l).openFrame.isSome && (e.lane l).reserved.isNone
    && e.frames.waitQ.isEmpty && decide (e.frames.floor < e.countFrames .free) && !e.exhausted

/-- Lane `l` considered for a reservation: the lowest-numbered FREE frame goes RESERVED (R99), and R98 applies to it. -/
def Ev.reserveLane (e : Ev) (l : LaneNo) : Ev :=
  if e.mayReserve l then
    match e.lowestFree with
    | some n => ((e.setFrame n { Frame.free with state := .reserved, lane := l }).setLane l
        { e.lane l with reserved := some n }).cancelWrites n
    | none => e
  else e

/-- The reservations of an event, the lanes in ascending number (R99): made when a frame went OPEN or became FREE, or when
the frame-wait queue became empty. -/
def Ev.reserveAll (e : Ev) : Ev :=
  if e.reserveDue || (!e.waitWasEmpty && e.frames.waitQ.isEmpty) then (List.finRange 32).foldl Ev.reserveLane e else e

/-- FRAMES_EXHAUSTED or FRAMES_AVAILABLE at the end of an event (R102). -/
def Ev.waitNotice (e : Ev) : Ev :=
  match e.frames.waitQ with
  | k :: _ =>
    if e.waitWasEmpty then
      match e.slot k with
      | .waiting _ _ l => e.post .frame (.framesExhausted l k (e.countFrames .sealed + e.countFrames .held))
      | _ => e
    else e
  | [] => if e.waitWasEmpty then e else e.post .frame (.framesAvailable (e.countFrames .free))

end Sys2Proof.Machine
end

