-- ==== Sys2Proof/Machine/Lanes.lean ====
section
/-! DEFINITION. The collection table and the lane table (chapter 5): caching, lane choice, eviction, unbinding. -/

namespace Sys2Proof.Machine

/-! ### Collection-table entries -/

/-- The lane binding of a tag's entry set (R71). -/
def Ev.bindEntry (e : Ev) (t : Tag) (l : Option LaneNo) : Ev :=
  e.setEntries (e.coll.entries.map (fun c => if c.tag = t then { c with lane := l } else c))

/-- The entries without the least recent one that satisfies `p`; none if no entry does. -/
def dropLeastRecent (p : CollEntry → Bool) (l : List CollEntry) : Option (CollEntry × List CollEntry) :=
  match l.reverse.find? p with
  | some c => some (c, (l.reverse.eraseP p).reverse)
  | none => none

/-- A class found for an absent tag is cached, if there is a place for it (R72). -/
def Ev.cacheResult (e : Ev) (t : Tag) (c : ClassNo) (listed : Bool) : Ev :=
  let x : CollEntry := { tag := t, cls := c, pinned := false, listed := listed, lane := none }
  if e.coll.entries.length < 128 then e.setEntries (x :: e.coll.entries)
  else match dropLeastRecent (fun c => !c.pinned && c.lane.isNone) e.coll.entries with
    | some (_, rest) => e.setEntries (x :: rest)
    | none => e

/-! ### Lanes -/

/-- Lanes 1..31, ascending (R82). -/
def ownLanes : List LaneNo := (List.finRange 32).filter (fun l => l != 0)

/-- The tag of a lane bound to a collection; zero otherwise. -/
def Lane.tag (l : Lane) : Tag :=
  match l.binding with
  | .collection t _ => t
  | _ => 0

/-- Every WAITING slot recorded for lane `l` is recorded as waiting for lane 0, in place (R84, R85). -/
def Ev.moveWaiters (e : Ev) (l : LaneNo) : Ev :=
  e.frames.waitQ.foldl (fun e k =>
    match e.slot k with
    | .waiting f c m => if m = l then e.setSlot k (.waiting f c 0) else e
    | _ => e) e

/-- Lane `l` bound to a collection with a class, its last-placement time the tick count (R83 step 4, R84 step 5). -/
def Ev.bindLane (e : Ev) (l : LaneNo) (t : Tag) (c : ClassNo) : Ev :=
  (e.setLane l { e.lane l with binding := .collection t c, lastPlace := e.lanes.tick }).bindEntry t (some l)

/-- The victim of an eviction: the lane among 1..31 with the oldest last-placement time, the lowest-numbered of those with
the same time (R84). -/
def Ev.victim (e : Ev) : LaneNo :=
  ownLanes.foldl (fun v l => if e.since (e.lane v).lastPlace < e.since (e.lane l).lastPlace then l else v) 1

/-- The eviction of lane `v` for a new collection (R84 steps 1 to 5); its RESERVED frame stays. -/
def Ev.evictLane (e : Ev) (v : LaneNo) (t : Tag) (c : ClassNo) : Ev :=
  let old := (e.lane v).tag
  (((((e.closeLane v .evicted).bindEntry old none).moveWaiters v).post .lane (.laneEvicted v old t))).bindLane v t c

/-- The lane of a file of class `c` and tag `t` (R83, R84). -/
def Ev.chooseLane (e : Ev) (t : Tag) (c : ClassNo) : Ev × LaneNo :=
  if !(e.classRec c).ownLane then (e, 0)
  else match e.entryOf t with
    | none => (e, 0)
    | some x =>
      match x.lane with
      | some l => (e, l)
      | none =>
        match ownLanes.find? (fun l => (e.lane l).binding == .unbound) with
        | some l => (e.bindLane l t c, l)
        | none =>
          if e.lanes.hold ≤ e.since (e.lane e.victim).lastPlace then (e.evictLane e.victim t c, e.victim)
          else (e, 0)

/-- A lane unbound without being rebound (R85). -/
def Ev.unbindLane (e : Ev) (l : LaneNo) (reason : SealReason) : Ev :=
  let old := (e.lane l).tag
  let e := ((e.closeLane l reason).returnReserved l).moveWaiters l
  (e.setLane l { e.lane l with binding := .unbound, lastPlace := 0 }).bindEntry old none

/-- The lane, if any, that an entry names, unbound (R80, R81). -/
def Ev.unbindEntry (e : Ev) (x : CollEntry) (reason : SealReason) : Ev :=
  match x.lane with
  | some l => e.unbindLane l reason
  | none => e

/-- The file's lane chosen and the file routed (R24, R31): the event in which its class is decided. -/
def Ev.routeClass (e : Ev) (k : SlotNo) (f : File) (c : ClassNo) : Ev :=
  let r := e.chooseLane f.intent.tag c
  r.1.route k f c r.2

end Sys2Proof.Machine
end

