-- ==== Sys2Proof/Machine/Operands.lean ====
section
/-! DEFINITION. The operands of the commands: the fields the part reads in the records that software writes (R179, R180,
R181), each at its full width (R177), and the place an upstream address decodes to (R5 to R10). -/

namespace Sys2Proof.Machine

/-! ### Records software writes -/

/-- The command code of a record or cell (R179, R180). -/
def recordCode (d : List Byte) : Nat := field d 0 1

/-- The request number of a slot record or command cell, byte 1 (R179, R180). -/
def recordReq (d : List Byte) : Byte := BitVec.ofNat 8 (field d 1 1)

/-- The intent of a slot record (R23, R179). -/
def recordIntent (d : List Byte) : Intent :=
  { tag := BitVec.ofNat 32 (field d 8 4), length := field d 12 4, serial := field d 16 6, nameDigest := field d 24 8,
    hint := field d 22 1, closeRequired := bitAt d 23 0 }

/-- The fields of a confirm cell (R181). -/
structure ConfirmCell where
  req : Byte
  serial : Nat
  frame : Nat
  pool : Nat
  digestPresent : Bool
  digest : Digest
deriving DecidableEq, Repr

def confirmCell (d : List Byte) : ConfirmCell :=
  { req := BitVec.ofNat 8 (field d 0 1), serial := field d 8 6, frame := field d 14 2, pool := field d 16 1,
    digestPresent := bitAt d 17 0, digest := BitVec.ofNat 32 (field d 20 4) }

/-- The consumer-index word taken modulo 1,024 (R164, R181). -/
def consumerValue (d : List Byte) : RingPos := BitVec.ofNat 10 (field d 0 8)

/-- The tag of an external-table entry: bytes 0..3, least significant byte first (R185). -/
def entryTag (d : List Byte) : Tag := BitVec.ofNat 32 (field d 0 4)

/-- The class byte of an external-table entry: byte 4; bytes 5..15 are not read (R185). -/
def entryClass (d : List Byte) : Byte := BitVec.ofNat 8 (field d 4 1)

/-- The bytes of profile `k` in the configuration memory: k x 1,024 .. k x 1,024 + 1,023 (R186). -/
def profileAt (memory : List Byte) (k : Fin 4) : List Byte := (memory.drop (k.val * 1024)).take 1024

/-! ### Numbers that name a class, a frame or a pool -/

def classNo? (n : Nat) : Option ClassNo := if h : n < 8 then some ⟨n, h⟩ else none

def poolNo? (n : Nat) : Option PoolNo := if h : n < 4 then some ⟨n, h⟩ else none

def laneNo? (n : Nat) : Option LaneNo := if h : n < 32 then some ⟨n, h⟩ else none

/-- A frame number of the part: below N_F (R88). -/
def State.frameNo? (s : State) (n : Nat) : Option FrameNo :=
  if h : n < 1024 then (if n < s.frames.nF then some ⟨n, h⟩ else none) else none

/-! ### Requests and windows -/

/-- A malformed request (R2). -/
def malformed (addr : UpAddr) (len : Nat) : Bool := len < 1 || 512 < len || 4096 < addr.toNat % 4096 + len

/-- The range [a, a + n) lies below 2^40 (R9, R19). -/
def belowStoreEnd (a n : Nat) : Bool := a + n ≤ 2 ^ 40

/-- Two half-open ranges share an address. -/
def rangesMeet (a n b m : Nat) : Bool := 0 < n && 0 < m && a < b + m && b < a + n

/-- Whether a window holds an upstream address (R5); an absent window holds none. -/
def Window.holds (w : Window) (addr : Nat) : Bool := w.base ≤ addr && addr < w.base + w.size

/-- Where an upstream address lies (R5), with its offset where the window has one. -/
inductive Place where
  | control (off : Nat)
  | slot (k : SlotNo) (off : Nat)
  | pack (off : Nat)
  | pass (window : Fin 4) (addr : Nat) (readOnly : Bool)
  | unclaimed
deriving DecidableEq, Repr

/-- The pass windows tested in ascending number (R5, R8). -/
def Decoder.passPlace (d : Decoder) (addr : Nat) : Place :=
  match (List.finRange 4).find? (fun k => (d.pass.get k).holds addr) with
  | some k => .pass k ((d.pass.get k).store + (addr - (d.pass.get k).base)) (d.pass.get k).readOnly
  | none => .unclaimed

/-- The window decoder: control, slot, pack, pass 0, 1, 2, 3; the first that holds the address (R5, R10). -/
def Decoder.place (d : Decoder) (addr : Nat) : Place :=
  if d.control.holds addr then .control (addr - d.control.base)
  else if d.slot.holds addr then
    let off := addr - d.slot.base
    .slot ⟨off / 16777216 % 512, Nat.mod_lt _ (by decide)⟩ (off % 16777216)
  else if d.pack.holds addr then .pack (addr - d.pack.base)
  else d.passPlace addr

/-- Bytes in the pack region: N_F frames (section 1.2). -/
def State.packSpan (s : State) : Nat := s.frames.nF * s.frameSize

/-- The frame a pack-window offset lies in, none in the tail of the window (R7). -/
def State.packFrame (s : State) (off : Nat) : Option FrameNo :=
  if off < s.packSpan then s.frameNo? (off / s.frameSize) else none

/-- Whether a store range meets the pack region or the control region (R9). -/
def State.meetsRegions (s : State) (addr len : Nat) : Bool :=
  rangesMeet addr len s.decoder.pack.store s.packSpan || rangesMeet addr len s.decoder.control.store 131072

/-- What a write in the control window asks for, by the area it touches and its form (R6). -/
inductive ControlForm where
  | command (c : CellNo)
  | confirm (c : CellNo)
  | consumer
  | slotRecord (k : SlotNo) (whole : Bool)
  | malformed
  | plain
deriving DecidableEq, Repr

/-- The form of a control-window write of `len` bytes at offset `off` (R6). -/
def controlForm (off len : Nat) : ControlForm :=
  if rangesMeet off len 0x0400 0x400 then
    (if off % 64 = 0 ∧ len = 64 ∧ 0x0400 ≤ off then .command ⟨(off - 0x0400) / 64 % 16, Nat.mod_lt _ (by decide)⟩
     else .malformed)
  else if rangesMeet off len 0x0800 0x400 then
    (if off % 64 = 0 ∧ len = 64 ∧ 0x0800 ≤ off then .confirm ⟨(off - 0x0800) / 64 % 16, Nat.mod_lt _ (by decide)⟩
     else .malformed)
  else if rangesMeet off len 0x0C00 8 then
    (if off = 0x0C00 ∧ len = 8 then .consumer else .malformed)
  else if rangesMeet off len 0x1000 0x8000 then
    (if off % 64 = 0 ∧ (len = 64 ∨ len = 8) ∧ 0x1000 ≤ off then
       .slotRecord ⟨(off - 0x1000) / 64 % 512, Nat.mod_lt _ (by decide)⟩ (len == 64)
     else .malformed)
  else .plain

end Sys2Proof.Machine
end

