-- ==== Sys2Proof/Machine/Release.lean ====
section
/-! DEFINITION. Confirms and release (chapter 8): the checks of a confirm, mismatches, the release of a frame. -/

namespace Sys2Proof.Machine

/-- A frame released (R132, R136): FREE, PACK_RELEASED, and the frame granted or reserved. The confirmed set is carried by
the reason DISCARDED only (R136; log 19). -/
def Ev.release (e : Ev) (n : FrameNo) (discarded : Bool) : Ev :=
  let f := e.frame n
  (((e.freeFrame n).post .frame
    (.packReleased n f.serial discarded f.assigned (if discarded then f.confirmed else 0)))).grantAll

/-- The checks of a confirm in the order of R129, against the frame record `f` of the frame it names. -/
def confirmCheck (f : Frame) (c : ConfirmCell) : ConfirmStatus :=
  if f.state ≠ .sealed then .notSealed
  else if c.serial ≠ f.serial then .wrongPack
  else if (match poolNo? c.pool with
           | some p => f.assigned.getLsbD p.val
           | none => false) = false then .notAssigned
  else if c.digestPresent = false then .noDigest
  else if c.digest ≠ f.body.digest then .mismatch
  else .confirmed

/-- The confirmed set with the cell's pool added (R130). -/
def Frame.confirmedWith (f : Frame) (pool : Nat) : PoolSet := f.confirmed ||| BitVec.ofNat 4 (2 ^ pool)

/-- A confirm that passes every check (R130, R132). -/
def Ev.confirmed (e : Ev) (n : FrameNo) (pool : Nat) : Ev :=
  let f := { e.frame n with confirmed := (e.frame n).confirmedWith pool }
  let e := e.setFrame n f
  if f.confirmed = f.assigned then e.release n false else e

/-- A confirm answered MISMATCH (R131): the count rises, and the third holds the frame. -/
def Ev.mismatched (e : Ev) (n : FrameNo) (c : ConfirmCell) : Ev :=
  let f := e.frame n
  let count := f.mismatches + 1
  let e := (e.setFrame n { f with mismatches := count, state := if count = 3 then .held else f.state }).post .path
    (.confirmRefused n c.pool count c.digest f.body.digest f.serial)
  if count = 3 then e.post .path (.packHeld n f.serial true) else e

/-- Whether a confirm with status `st` released frame `n` (R130): its pool completed the set. -/
def releases (f : Frame) (c : ConfirmCell) : Bool := f.confirmedWith c.pool == f.assigned

/-- A confirm cell write (R128 to R131, R137): its effect, and its status word. -/
def Ev.actConfirm (e : Ev) (k : CellNo) (d : List Byte) : Ev × List OwnWrite :=
  let c := confirmCell d
  if c.req = 0 then (e, [])
  else match e.frameNo? c.frame with
    | none => (e, [e.confirmStatusWrite k c.req .badFrame .free 0 0])
    | some n =>
      let st := confirmCheck (e.frame n) c
      match st with
      | .confirmed =>
        let e' := e.confirmed n c.pool
        if releases (e.frame n) c then (e', [e'.confirmStatusWrite k c.req st .free 0 0])
        else (e', [e'.confirmStatusWrite k c.req st .sealed (e'.frame n).confirmed (e'.frame n).mismatches])
      | .mismatch =>
        let e' := e.mismatched n c
        (e', [e'.confirmStatusWrite k c.req st (e'.frame n).state (e'.frame n).confirmed (e'.frame n).mismatches])
      | _ => (e, [e.confirmStatusWrite k c.req st (e.frame n).state (e.frame n).confirmed (e.frame n).mismatches])

end Sys2Proof.Machine
end

