-- ==== Sys2Proof/Machine/Commands.lean ====
section
/-! DEFINITION. The command unit (chapter 9): the twelve commands, the freeze check, status words, the description record. -/

namespace Sys2Proof.Machine

/-- An 8-byte result value (R142, R180). -/
def resultValue (n : Nat) : List Byte := le 8 n

/-- DONE with a result value. -/
def cmdDone (n : Nat) : CmdResult := { status := .done, result := resultValue n }

/-- A refusal, with a result value of zero (R142). -/
def cmdRefused (s : CmdStatus) : CmdResult := { status := s, result := resultValue 0 }

/-- The description record written again from the values as they stand (R155, R156); held (R13). -/
def Ev.rewriteDescription (e : Ev) : Ev :=
  let e := e.setCmd { e.cmd with rewrites := e.cmd.rewrites + 1 }
  e.hold { kind := .description, addr := e.controlAddr 0, data := e.descriptionBytes e.cmd.rewrites }

/-- The grants of an event in which a RESERVED frame returned to FREE (R100, R104). They are made after every step of the
unbinding (R85) or DRAIN (R152) that freed the frame, and after the entry was made, changed or removed (R80, R81); the
spec says only that they fall in the event. It differs while the serials are exhausted alone: DESIGN CHOICE, unsafe
(log 34). -/
def Ev.grantFreed (e : Ev) : Ev := if e.reserveDue then e.grantAll else e

/-! ### Collections -/

/-- A PINNED entry for `t` with class `c` at the most recent place (R80). -/
def Ev.pinEntry (e : Ev) (t : Tag) (c : ClassNo) (lane : Option LaneNo) : Ev :=
  e.setEntries ({ tag := t, cls := c, pinned := true, listed := true, lane := lane }
    :: e.coll.entries.filter (fun x => x.tag != t))

/-- REGISTER of a tag the table holds (R80, first two cases): the binding is kept with the same class, and the lane is
unbound with another. -/
def Ev.registerPresent (e : Ev) (t : Tag) (c : ClassNo) (x : CollEntry) : Ev :=
  if x.cls = c then e.pinEntry t c x.lane else (e.unbindEntry x .reclass).pinEntry t c none

/-- LANE_EVICTED for the lane an evicted entry was bound to (R80). -/
def Ev.postEvicted (e : Ev) (x : CollEntry) : Ev :=
  match x.lane with
  | some l => e.post .lane (.laneEvicted l x.tag 0)
  | none => e

/-- REGISTER of a tag the table does not hold (R80, last three cases). -/
def Ev.registerAbsent (e : Ev) (t : Tag) (c : ClassNo) : Ev × CmdResult :=
  if e.coll.entries.length < 128 then (e.pinEntry t c none, cmdDone 0)
  else match e.coll.entries.reverse.find? (fun x => !x.pinned) with
    | some x =>
      let e := (e.unbindEntry x .evicted).postEvicted x
      (((e.setEntries (e.coll.entries.filter (fun y => y.tag != x.tag))).pinEntry t c none), cmdDone x.tag.toNat)
    | none => (e, cmdRefused .tableFull)

/-- REGISTER (R80, R144). A grant that the unbinding of a lane gives rise to comes after the pinning, so an entry touched
by a placement of that grant (R86) stands before the pinned one: DESIGN CHOICE, unsafe (log 34). -/
def Ev.doRegister (e : Ev) (d : List Byte) : Ev × CmdResult :=
  let t : Tag := BitVec.ofNat 32 (field d 8 4)
  match classNo? (field d 12 1) with
  | none => (e, cmdRefused .badArgument)
  | some c =>
    match e.entryOf t with
    | some x => ((e.registerPresent t c x).grantFreed, cmdDone 0)
    | none =>
      let r := e.registerAbsent t c
      (r.1.grantFreed, r.2)

/-- The lane number an entry is bound to, zero for none (R142). -/
def CollEntry.laneNumber (x : CollEntry) : Nat :=
  match x.lane with
  | some l => l.val
  | none => 0

/-- UNREGISTER (R81, R144). A grant that the unbinding gives rise to comes after the removal (log 34). -/
def Ev.doUnregister (e : Ev) (d : List Byte) : Ev × CmdResult :=
  let t : Tag := BitVec.ofNat 32 (field d 8 4)
  match e.entryOf t with
  | none => (e, cmdRefused .notFound)
  | some x =>
    let e := e.unbindEntry x .reclass
    ((e.setEntries (e.coll.entries.filter (fun y => y.tag != t))).grantFreed, cmdDone x.laneNumber)

/-! ### Classes, pattern, table -/

/-- F as SET CLASS takes it (R145): rounded up to a multiple of 64, then into 64..4,096. -/
def clampFiles (n : Nat) : Nat := min (max ((n + 63) / 64 * 64) 64) 4096

/-- T as SET CLASS takes it (R145): into 16..floor(C / 1,048,576) with the F just taken and the frame size exponent. -/
def clampTarget (exp files n : Nat) : Nat := min (max n 16) ((2 ^ exp - (512 + files * 64)) / 1048576)

/-- K as SET CLASS takes it (R145). -/
def clampCopies (n : Nat) : Nat := min (max n 1) 4

/-- A period as SET PATTERN takes it (R148). -/
def clampPeriod (n : Nat) : Nat := min (max n 1) 16

/-- A table count as SET TABLE takes it (R147). -/
def clampCount (n : Nat) : Nat := min n 65536

/-- A table base with its low four bits taken as zero (R74, R147). -/
def clampBase (n : Nat) : Nat := n / 16 * 16

/-- The class a SET CLASS cell gives, clamped (R145, R180). -/
def cellClass (exp : Nat) (d : List Byte) : ClassRec :=
  let files := clampFiles (field d 12 2)
  { ownLane := field d 9 1 != 0
    params := { files := files, align := if field d 14 2 = 0 then 512 else 4096,
                target := clampTarget exp files (field d 10 2), quiet := field d 16 2, age := field d 18 2,
                copies := clampCopies (field d 20 1) } }

/-- The clamped mark: some value taken differs from the value written (R145). An OWN_LANE of zero or one and an A of 4,096 are
taken as written; an OWN_LANE above one is held as 1, and an A of zero as 512 (log 31). -/
def clampedMark (c : ClassRec) (d : List Byte) : Bool :=
  field d 9 1 != bit c.ownLane || field d 10 2 != c.params.target || field d 12 2 != c.params.files
    || field d 14 2 != c.params.align || field d 20 1 != c.params.copies

/-- SET CLASS (R145, R146). -/
def Ev.doSetClass (e : Ev) (d : List Byte) : Ev × CmdResult :=
  match classNo? (field d 8 1) with
  | none => (e, cmdRefused .badArgument)
  | some k =>
    let c := cellClass e.frames.exp d
    (({ e with coll := { e.coll with classes := put e.coll.classes k c } } : Ev).rewriteDescription,
      cmdDone (bit (clampedMark c d)))

/-- The four masks of a SET PATTERN cell (R180). -/
def cellMasks (d : List Byte) : Vector (BitVec 16) 4 := Vector.ofFn (fun p => BitVec.ofNat 16 (field d (10 + 2 * p.val) 2))

/-- SET PATTERN (R125, R148). -/
def Ev.doSetPattern (e : Ev) (d : List Byte) : Ev × CmdResult :=
  let period := clampPeriod (field d 8 1)
  ((e.setCopy { period := period, counter := 0, masks := cellMasks d }).rewriteDescription, cmdDone period)

/-- SET TABLE (R79, R147). -/
def Ev.doSetTable (e : Ev) (d : List Byte) : Ev × CmdResult :=
  let count := clampCount (field d 16 4)
  let kept := e.coll.entries.filter (fun x => x.pinned || x.listed || x.lane.isSome)
  (({ e with coll := { e.coll with extBase := clampBase (field d 8 5), extCount := count, entries := kept } }
      : Ev).rewriteDescription, cmdDone count)

/-! ### Serials, time, attention, freeze -/

/-- SET SERIAL (R149). -/
def Ev.doSetSerial (e : Ev) (d : List Byte) : Ev × CmdResult :=
  let v := field d 8 6
  if v < e.cmd.nextSerial then (e, cmdRefused .badArgument) else (e.setCmd { e.cmd with nextSerial := v }, cmdDone v)

/-- SET TIME (R150). -/
def Ev.doSetTime (e : Ev) (d : List Byte) : Ev × CmdResult :=
  (e.setCmd { e.cmd with bridgeTime := BitVec.ofNat 48 (field d 8 6) }, cmdDone (field d 8 6))

/-- SET ATTENTION (R151): bits that stand for no ROUTINE kind are held as zero. -/
def Ev.doSetAttention (e : Ev) (d : List Byte) : Ev × CmdResult :=
  let mask : BitVec 16 := BitVec.ofNat 16 (field d 8 2 % 1024)
  ((e.setCmd { e.cmd with attnMask := mask }).rewriteDescription, cmdDone mask.toNat)

/-- FREEZE (R143): the description record is written again when the flag changes (R156). -/
def Ev.doFreeze (e : Ev) : Ev × CmdResult :=
  if e.cmd.frozen then (e, cmdDone 0) else ((e.setCmd { e.cmd with frozen := true }).rewriteDescription, cmdDone 0)

/-! ### Drain, resume, discard -/

/-- The OPEN frames of lanes close for a reason: all go CLOSING, then those with no file in flight go SEALING in ascending
frame number (R116, R152, R87). -/
def Ev.closeLanes (e : Ev) (ls : List LaneNo) (reason : SealReason) : Ev :=
  let ns := ls.filterMap (fun l => (e.lane l).openFrame)
  (ns.insertionSort (· ≤ ·)).foldl Ev.sealIfEmpty (ns.foldl (fun e n => e.toClosing n reason) e)

/-- The lanes a DRAIN names, in ascending number (R152); none when it is refused. -/
def drainLanes (d : List Byte) : Option (List LaneNo) :=
  if bitAt d 9 0 then some (List.finRange 32) else (laneNo? (field d 8 1)).map (fun l => [l])

/-- DRAIN (R152). -/
def Ev.doDrain (e : Ev) (d : List Byte) : Ev × CmdResult :=
  match drainLanes d with
  | none => (e, cmdRefused .badArgument)
  | some ls =>
    let closed := ls.countP (fun l => (e.lane l).openFrame.isSome)
    let freed := ls.countP (fun l => (e.lane l).reserved.isSome)
    ((ls.foldl Ev.returnReserved (e.closeLanes ls .drain)).grantFreed,
      { status := .done, result := le 4 closed ++ le 4 freed })

/-- NOT_HELD, with the state found (R142, R153). -/
def cmdNotHeld (s : FrameState) : CmdResult := { status := .notHeld, result := resultValue s.code }

/-- RESUME (R135, R153). -/
def Ev.doResume (e : Ev) (d : List Byte) : Ev × CmdResult :=
  match e.frameNo? (field d 8 2) with
  | none => (e, cmdRefused .badArgument)
  | some n =>
    if (e.frame n).state = .held then
      (e.setFrame n { e.frame n with state := .sealed, confirmed := 0, mismatches := 0 }, cmdDone FrameState.sealed.code)
    else (e, cmdNotHeld (e.frame n).state)

/-- DISCARD (R136, R153). -/
def Ev.doDiscard (e : Ev) (d : List Byte) : Ev × CmdResult :=
  match e.frameNo? (field d 8 2) with
  | none => (e, cmdRefused .badArgument)
  | some n =>
    if (e.frame n).state = .held then (e.release n true, cmdDone FrameState.free.code)
    else (e, cmdNotHeld (e.frame n).state)

/-! ### A command cell -/

/-- The commands that freezing refuses: codes 1 to 6 (R141). -/
def configures (code : Nat) : Bool := 1 ≤ code && code ≤ 6

/-- A command judged in the order of R141 and carried out (R139, R141). -/
def Ev.judgeCommand (e : Ev) (code : Nat) (d : List Byte) : Ev × CmdResult :=
  if e.cmd.frozen && configures code then (e, cmdRefused .frozen)
  else match code with
    | 1 => e.doRegister d
    | 2 => e.doUnregister d
    | 3 => e.doSetClass d
    | 4 => e.doSetPattern d
    | 5 => e.doSetTable d
    | 6 => e.doSetSerial d
    | 7 => e.doSetTime d
    | 8 => e.doSetAttention d
    | 9 => e.doDrain d
    | 10 => e.doFreeze
    | 11 => e.doResume d
    | 12 => e.doDiscard d
    | _ => (e, cmdRefused .badArgument)

/-- A whole command cell written (R140): code 0 asks for nothing; any other code is judged and its status word made. -/
def Ev.actCommand (e : Ev) (c : CellNo) (d : List Byte) : Ev × List OwnWrite :=
  if recordCode d = 0 then (e, [])
  else
    let r := e.judgeCommand (recordCode d) d
    (r.1, [r.1.commandStatusWrite c (recordReq d) (BitVec.ofNat 8 (recordCode d)) r.2])

end Sys2Proof.Machine
end

