-- ==== Sys2Proof/Machine/Notices.lean ====
section
/-! DEFINITION. The notice unit (chapter 10): the pending queue, ring writes, the consumer index, strays. -/

namespace Sys2Proof.Machine

/-- The stray of requester `r`, if any, stops being outstanding (R38). -/
def NoticeUnit.clearStray (u : NoticeUnit) (r : Option Requester) : NoticeUnit :=
  match r with
  | none => u
  | some r => { u with strayOut := put u.strayOut r false }

/-- One notice lost (R160): the lost count rises, saturating, and a lost STRAY stops being outstanding. -/
def NoticeUnit.lose (u : NoticeUnit) (n : Notice) : NoticeUnit :=
  { u with lost := min (u.lost + 1) 65535 }.clearStray n.body.strayOf

/-- The notices before which a posted notice may stand: the one in writing keeps the head (R159). -/
def NoticeUnit.headLen (u : NoticeUnit) : Nat := if u.writing = .none then 0 else 1

/-- A notice placed in a pending queue that has room (R159). An URGENT one stands ahead of RESET_DONE too while the ring is
being cleared, and so takes ring position 0, which R167 gives RESET_DONE: DESIGN CHOICE, unsafe (log 36). -/
def NoticeUnit.insertNotice (u : NoticeUnit) (n : Notice) : NoticeUnit :=
  if n.urgent then
    let rest := u.pending.drop u.headLen
    { u with pending := u.pending.take u.headLen ++ rest.takeWhile Notice.urgent ++ [n]
               ++ rest.dropWhile Notice.urgent }
  else { u with pending := u.pending ++ [n] }

/-- A notice posted (R159, R160): placed, or placed in the stead of the oldest ROUTINE notice not in writing, or lost. -/
def NoticeUnit.enqueue (u : NoticeUnit) (n : Notice) : NoticeUnit :=
  if u.pending.length < 32 then u.insertNotice n
  else
    let rest := u.pending.drop u.headLen
    match rest.find? (fun m : Notice => !m.urgent) with
    | some old =>
      if n.urgent then
        ({ u with pending := u.pending.take u.headLen ++ rest.eraseP (fun m : Notice => !m.urgent) }.lose old).insertNotice n
      else u.lose n
    | none => u.lose n

/-- The ring write of the head, where R162 allows it (R162, R163, R165). -/
def NoticeUnit.ringWrite (u : NoticeUnit) (base : Nat) : NoticeUnit × Option OwnWrite :=
  match u.pending with
  | [] => (u, none)
  | n :: _ =>
    if u.faulted || u.toClear != 0 || 1023 ≤ u.unconsumed then (u, none)
    else
      let write (lost : Nat) : OwnWrite :=
        { kind := .notice, addr := base + ringOff u.producer, data := n.bytes u.lap lost }
      match u.writing with
      | .none => ({ u with writing := .made u.lost, lost := 0 }, some (write u.lost))
      | .parked lost => ({ u with writing := .made lost }, some (write lost))
      | .made _ => (u, none)

/-- The store answers DONE to the ring write of the head (R162 steps 1 to 3). -/
def NoticeUnit.writeDone (u : NoticeUnit) : NoticeUnit :=
  match u.pending with
  | [] => u
  | n :: rest =>
    { u with pending := rest, writing := .none,
             records := put u.records u.producer.toFin (some { kind := n.kind, strayOf := n.body.strayOf }),
             producer := u.producer + 1, lap := if u.producer = 1023 then !u.lap else u.lap }

/-- The store answers FAULT to the ring write of the head (R165). -/
def NoticeUnit.writeFault (u : NoticeUnit) : NoticeUnit :=
  { u with faulted := true,
           writing := match u.writing with
             | .made lost => .parked lost
             | w => w }

/-- The STRAY notices at `n` ring positions from `p` on stop being outstanding (R164, R38). -/
def NoticeUnit.consume (u : NoticeUnit) : Nat → RingPos → NoticeUnit
  | 0, _ => u
  | n + 1, p =>
    (match u.records.get p.toFin with
     | some r => u.clearStray r.strayOf
     | none => u).consume n (p + 1)

/-- A consumer value is accepted when it lies on the ring from the consumer up to the producer (R164). -/
def NoticeUnit.accepts (u : NoticeUnit) (v : RingPos) : Bool := (v - u.consumer).toNat ≤ u.unconsumed

/-- The own write that clears ring entry `p` (R167). -/
def clearingWrite (base : Nat) (p : RingPos) : OwnWrite :=
  { kind := .clearing p, addr := base + ringOff p, data := List.replicate 32 0 }

/-- A stray of requester `r` counted (R38). -/
def Ev.countStray (e : Ev) (r : Requester) (addr : UpAddr) : Ev :=
  let tally := min (e.notes.tallies.get r + 1) 65535
  if e.notes.strayOut.get r then e.setNotes { e.notes with tallies := put e.notes.tallies r tally }
  else
    (e.setNotes { e.notes with tallies := put e.notes.tallies r 0, strayOut := put e.notes.strayOut r true }).post
      .path (.stray r tally addr)

/-- A position put into the kept clearing writes, in ascending position (R167). -/
def insertPos (p : RingPos) : List RingPos → List RingPos
  | [] => [p]
  | q :: qs => if p.toNat ≤ q.toNat then p :: q :: qs else q :: insertPos p qs

end Sys2Proof.Machine
end

