-- ==== Sys2Proof/Machine/Event.lean ====
section
/-! DEFINITION. The end of an event: reservations, the frame-wait queue's notices, the posting of notices, the ring write, the
entry of held own writes into the store queue, and the attention line. The orders that R13 and R158 leave open are drawn
from a free value (log 9). -/

namespace Sys2Proof.Machine

/-- Whether an own write is a seal header. -/
def OwnWrite.isSeal (w : OwnWrite) : Bool :=
  match w.kind with
  | .sealHeader _ _ => true
  | _ => false

/-- Whether an own write is the description record. -/
def OwnWrite.isDescription (w : OwnWrite) : Bool := w.kind == .description

/-- Seal headers may be held behind writes that other blocks made later in the same event, never ahead of writes made
before them (R13, R118): `late` are the seal headers not yet placed, `q` answers whether each write passes them. -/
def delaySeals (q : Nat → Nat) : Nat → List OwnWrite → List OwnWrite → List OwnWrite
  | _, late, [] => late
  | i, late, w :: ws =>
    if w.isSeal then delaySeals q i (late ++ [w]) ws
    else if late.isEmpty then w :: delaySeals q i [] ws
    else if q i % 2 = 0 then late ++ w :: delaySeals q (i + 1) [] ws
    else w :: delaySeals q (i + 1) late ws

/-- An own write of another block put among `l`, at a place the free number `i` picks. -/
def putAmong {α : Type} (i : Nat) (x : α) : List α → List α
  | [] => [x]
  | y :: ys => if i % (ys.length + 2) = 0 then x :: y :: ys else y :: putAmong (i / (ys.length + 2)) x ys

/-- The own writes of an event in the order they are held (R13): in the order made, but that seal headers, the description
record and the ring write may stand elsewhere among the writes of other blocks. Open headers, status words and index
entries stay in the order made, although R13 lets writes of different blocks be taken in either order: DESIGN CHOICE,
unsafe (log 33). -/
def arrange (q : Nat → Nat) (inOrder : Bool) (made : List OwnWrite) (ring : Option OwnWrite) : List OwnWrite :=
  let rest := made.filter (fun w => !w.isDescription)
  let rest := if inOrder then rest else delaySeals (fun i => q (i + 8)) 0 [] rest
  let rest := (made.filter OwnWrite.isDescription).foldl (fun l w => putAmong (q 2) w l) rest
  match ring with
  | some w => putAmong (q 3) w rest
  | none => rest

/-- The six orders of three lists. -/
def sixOrders {α : Type} (i : Nat) (a b c : List α) : List α :=
  match i % 6 with
  | 0 => a ++ b ++ c
  | 1 => a ++ c ++ b
  | 2 => b ++ a ++ c
  | 3 => b ++ c ++ a
  | 4 => c ++ a ++ b
  | _ => c ++ b ++ a

/-- The notices a block has posted in an event, in the order its rules give. -/
def postedBy (b : Poster) (l : List (Poster × Notice)) : List Notice := (l.filter (fun x => x.1 == b)).map Prod.snd

/-- The notices of an event in the order they reach the pending queue: each block's in its order, two blocks in either
order (R158). All of one block's stand before the other's; whether they may interleave is not said: DESIGN CHOICE,
unsafe (log 37). -/
def orderNotices (q : Nat → Nat) (l : List (Poster × Notice)) : List Notice :=
  if l.length ≤ 1 then l.map Prod.snd
  else postedBy .path l ++ sixOrders (q 1) (postedBy .lookup l) (postedBy .lane l) (postedBy .frame l)

/-- The notice unit and the held writes at the end of an event: the event's notices enter the pending queue, the ring write
is made where R162 allows it, and the event's own writes are held behind the older ones (R13). -/
def Ev.settle (e : Ev) : State :=
  let q := Config.orderChoice e.choice
  let u := (orderNotices q e.posted).foldl NoticeUnit.enqueue e.notes
  let r := u.ringWrite e.decoder.control.store
  { e.toState with
    notes := r.1
    queue := { e.queue with held := e.queue.held ++ arrange q e.inOrder e.made r.2 }.takeHeld
    choice := e.choice + 1 }

/-- The attention line follows R166. -/
def State.updateAttention (s : State) : State := { s with attention := s.attentionLevel }

/-- The end of an event. -/
def Ev.finish (e : Ev) : State := (e.reserveAll.waitNotice.settle).updateAttention

/-- One event: what `f` makes of the state, brought to its end. -/
def State.event (s : State) (f : Ev → Ev) : State := (f (Ev.start s)).finish

/-- The outputs of the last command cleared (log 8). -/
def State.clearOut (s : State) : State := { s with linkOut := [], storeOut := [], configOut := [] }

/-- A command that is one event. -/
def State.run (s : State) (f : Ev → Ev) : Host.Outcome State Fault Refusal := .next (s.clearOut.event f)

/-- A command with no effect on the part (log 23). -/
def State.ignore (s : State) : Host.Outcome State Fault Refusal := .next s.clearOut

end Sys2Proof.Machine
end

