-- ==== Sys2Proof/Machine/Coverage.lean ====
section
/-! DEFINITION. The coverage unit (chapter 3): clamp, overrun, rewrite test, merge, scatter, and the end states. -/

namespace Sys2Proof.Machine

/-- The account of a file whose OPEN has just been taken (R41). -/
def Account.fresh : Account :=
  { coverage := .tracked [], digestVoid := false, overrun := false, overrunCount := 0, storeFault := false }

/-- The in-file length of a write of `n` bytes at slot offset `o` (R43). -/
def clamp (length o n : Nat) : Nat := if length ≤ o then 0 else if length - o < n then length - o else n

/-- The overrun of `n` bytes recorded (R44). -/
def Account.addOverrun (a : Account) (n : Nat) : Account :=
  if n = 0 then a
  else { a with overrun := true, overrunCount := min (a.overrunCount + n) 4294967295 }

/-- Two ranges share an offset (R46). -/
def Extent.overlaps (x y : Extent) : Bool := x.start < y.stop && y.start < x.stop

/-- Two ranges share an offset or touch (R47). -/
def Extent.meets (x y : Extent) : Bool := x.start ≤ y.stop && y.start ≤ x.stop

/-- A range merged into an ordered extent list (R47): the ranges it meets are replaced by one from the least start to the
greatest end, and the order is kept. -/
def mergeExtent (x : Extent) : List Extent → List Extent
  | [] => [x]
  | y :: ys =>
    if x.stop < y.start then x :: y :: ys
    else if y.stop < x.start then y :: mergeExtent x ys
    else mergeExtent { start := min x.start y.start, stop := max x.stop y.stop } ys

/-- The sum of the lengths of the ranges (R41). -/
def coveredAmount (l : List Extent) : Nat := (l.map (fun x => x.stop - x.start)).sum

/-- Full coverage: the list is the single range [0, L) (R42). -/
def fullCoverage (length : Nat) (l : List Extent) : Bool := l == [{ start := 0, stop := length }]

/-- The rewrite test of a write with range `x` (R46): not made while SCATTERED. -/
def Account.testRewrite (a : Account) (x : Extent) : Account :=
  match a.coverage with
  | .tracked l => if l.any x.overlaps then { a with digestVoid := true } else a
  | .scattered => a

/-- The merge of a write, or the scatter where it would leave nine ranges (R47, R48). -/
def Coverage.record (c : Coverage) (x : Extent) : Coverage :=
  match c with
  | .tracked l => if 8 < (mergeExtent x l).length then .scattered else .tracked (mergeExtent x l)
  | .scattered => .scattered

/-- A data write with in-file bytes `bytes` at offset `o` and `beyond` bytes of overrun recorded in the account and in the
sums, in the order of R45. -/
def File.recordWrite (f : File) (o : Nat) (bytes : List Byte) (beyond : Nat) : File :=
  let a := f.account.addOverrun beyond
  let x : Extent := { start := o, stop := o + bytes.length }
  let a := a.testRewrite x
  { f with acc := if a.digestVoid then f.acc else f.acc.addBytes o bytes
           account := { a with coverage := a.coverage.record x } }

/-- The file's coverage is full (R49, R50). -/
def File.covered (f : File) : Bool :=
  match f.account.coverage with
  | .tracked l => fullCoverage f.intent.length l
  | .scattered => false

/-- Entry state, missing bytes and digest state at the end of a file (R52, R53). -/
def File.endReport (f : File) (reason : EndReason) : EndReport :=
  let missing := match f.account.coverage with
    | .tracked l => some (f.intent.length - coveredAmount l)
    | .scattered => none
  if reason = .abandoned then { state := .abandoned, missing := missing, digestState := .absent }
  else
    let state := match f.account.coverage with
      | .tracked l => if fullCoverage f.intent.length l then .complete else .incomplete
      | .scattered => .unverified
    let digest := match state with
      | .complete => .valid
      | .incomplete => .partly
      | _ => .unchecked
    { state := state, missing := missing, digestState := if f.account.digestVoid then .void else digest }

end Sys2Proof.Machine
end

