-- ==== Sys2Proof/Machine/Lookup.lean ====
section
/-! DEFINITION. The lookup engine (R73 to R77): serving the lookup queue, searching the external table, delivering classes. -/

namespace Sys2Proof.Machine

/-- Whether a status word of slot `k` has been made in this event. -/
def Ev.reported (e : Ev) (k : SlotNo) : Bool := e.made.any (fun w => w.isStatusOf k)

/-- The class delivered to a slot in LOOKUP (R31): it leaves the lookup queue, its lane and placement are decided, and its
report is held. -/
def Ev.deliver (e : Ev) (k : SlotNo) (c : ClassNo) : Ev :=
  match e.slot k with
  | .lookup f =>
    let e := (e.setLookupQ (e.coll.lookupQ.filter (fun j => j != k))).routeClass k f c
    if e.reported k then e else e.holdReport k
  | _ => e

/-- The class a search delivers: the entry's if the table holds one by now, else the one found (R75, R76). -/
def Ev.classFor (e : Ev) (t : Tag) (c : ClassNo) : ClassNo :=
  match e.entryOf t with
  | some x => x.cls
  | none => c

/-- A search ended: the engine goes idle, and the class goes to the slot served if it is still claimed (R75, R76). -/
def Ev.endSearch (e : Ev) (s : Search) (c : ClassNo) : Ev :=
  let e := e.setSearch none
  if s.claimed then e.deliver s.slot c else e

/-- The end of a search without a fault (R75): cached if the tag is absent, then delivered. -/
def Ev.searchFound (e : Ev) (s : Search) (c : ClassNo) (listed : Bool) : Ev :=
  let c' := e.classFor s.tag c
  let e := if (e.entryOf s.tag).isNone then e.cacheResult s.tag c listed else e
  e.endSearch s c'

/-- The end of a search by a lookup fault (R76): not cached, reported, class 0 or the entry's delivered. -/
def Ev.lookupFault (e : Ev) (s : Search) (addr : Nat) : Ev :=
  (e.post .lookup (.lookupFault s.slot addr s.tag)).endSearch s (e.classFor s.tag 0)

/-- The store address of the probe of a search: base + mid x 16 (R74). -/
def Search.probeAddr (s : Search) : Nat := s.base + (s.lo + s.hi) / 2 * 16

/-- A probe issued, or the search ended by a fault where the probe would lie at or above 2^40 (R74). -/
def Ev.probe (e : Ev) (s : Search) : Ev :=
  if belowStoreEnd s.probeAddr 16 then
    ((e.setSearch (some s)).setQueue
      { e.queue with probes := e.queue.probes ++ [{ addr := s.probeAddr, live := true }] }).send (.read s.probeAddr 16)
  else e.lookupFault s s.probeAddr

/-- The idle engine serves the head of the lookup queue, and the heads behind it, until it searches or the queue is empty
(R73). Each turn takes a head out of the queue or begins a search. -/
def Ev.serve : Nat → Ev → Ev
  | 0, e => e
  | n + 1, e =>
    match e.coll.search, e.coll.lookupQ with
    | some _, _ => e
    | none, [] => e
    | none, k :: _ =>
      match e.slot k with
      | .lookup f =>
        match e.entryOf f.intent.tag with
        | some x => (e.deliver k x.cls).serve n
        | none =>
          if e.coll.extCount = 0 then ((e.cacheResult f.intent.tag 0 false).deliver k 0).serve n
          else (e.probe { slot := k, claimed := true, tag := f.intent.tag, base := e.coll.extBase,
                          count := e.coll.extCount, lo := 0, hi := e.coll.extCount - 1 }).serve n
      | _ => e

/-- The lookup engine's turn in an event (R73). -/
def Ev.serveAll (e : Ev) : Ev := e.serve (e.coll.lookupQ.length + 1)

/-- The class byte of an external entry: 0..7, and 0 for 8..255 (R75). -/
def classOfByte (b : Byte) : ClassNo := if h : b.toNat < 8 then ⟨b.toNat, h⟩ else 0

/-- The answer to the probe of the search in progress (R74), the entry's tag and class read out of its bytes (R185). -/
def Ev.searchStep (e : Ev) (s : Search) (a : ProbeAnswer) : Ev :=
  match a with
  | .fault => e.lookupFault s s.probeAddr
  | .data bytes =>
    let mid := (s.lo + s.hi) / 2
    let tag := entryTag bytes
    if tag = s.tag then e.searchFound s (classOfByte (entryClass bytes)) true
    else if tag < s.tag then
      (if mid + 1 ≤ s.hi then e.probe { s with lo := mid + 1 } else e.searchFound s 0 false)
    else if s.lo < mid then e.probe { s with hi := mid - 1 } else e.searchFound s 0 false

end Sys2Proof.Machine
end

