-- ==== Sys2Proof/Machine/Slots.lean ====
section
/-! DEFINITION. The slot engine (chapter 2): the slot-record commands OPEN, CLOSE and ABANDON, the end of a file, and data
traffic through a slot. -/

namespace Sys2Proof.Machine

/-! ### The end of a file -/

/-- The frame's record after the end of a file (R28 steps 3 and 4, R64, R66, R108). -/
def Frame.ended (fr : Frame) (f : File) (p : Placement) (r : EndReport) (entry : List Byte) : Frame :=
  { fr with body := if r.digestState.folded then fr.body.fold f.acc p.offset else fr.body
            index := fr.index.addBytes (p.entry * 64) entry
            inFlight := fr.inFlight - 1 }

/-- The digest of the final status word: zero when the digest state is NONE (R28, R62). -/
def File.finalDigest (f : File) (r : EndReport) : Digest := if r.digestState = .absent then 0 else f.acc.digest

/-- The index entry write of a file (R28 step 2, R90). -/
def Ev.entryWrite (e : Ev) (p : Placement) (bytes : List Byte) : OwnWrite :=
  { kind := .indexEntry p.frame p.entry (e.frame p.frame).serial,
    addr := e.frameBase p.frame + 512 + p.entry * 64, data := bytes }

/-- A FILLING file ends (R28): the slot goes IDLE; the index entry and the final status word are the two own writes, in
that order, which the caller holds or lets into the queue. What follows a frame's in-flight count of zero is `sealIfEmpty`
of the frame (R116). -/
def Ev.endFile (e : Ev) (k : SlotNo) (f : File) (p : Placement) (reason : EndReason) : Ev × List OwnWrite :=
  let r := f.endReport reason
  let bytes := indexEntryBytes f k p reason r e.cmd.bridgeTime
  let e' := (e.setFrame p.frame ((e.frame p.frame).ended f p r bytes)).setSlot k .idle
  (e', [e.entryWrite p bytes,
        e.statusWrite k 0 .ended f.lastReq r.state.code (some (e.statusPlace p)) (f.finalDigest r)])

/-- A file ended in an event of the part's own: its two writes are held, and its frame seals if it was the last (R13,
R115, R116, R40). -/
def Ev.endFileHeld (e : Ev) (k : SlotNo) (reason : EndReason) : Ev :=
  match e.slot k with
  | .filling f _ _ p =>
    let r := e.endFile k f p reason
    ({ r.1 with made := r.1.made ++ r.2 }).sealIfEmpty p.frame
  | _ => e

/-! ### OPEN -/

/-- The file of an OPEN that is taken (R23): owner, intent, request number; coverage and digest fields empty. -/
def newFile (r : Requester) (d : List Byte) : File :=
  { owner := r, intent := recordIntent d, lastReq := recordReq d, account := Account.fresh, acc := Acc.zero }

/-- The route of a taken OPEN (R24, R69, R70): by the class hint, by the collection table, or through the lookup queue. -/
def Ev.decideRoute (e : Ev) (k : SlotNo) (f : File) : Ev :=
  match classNo? f.intent.hint with
  | some c => e.routeClass k f c
  | none =>
    match e.entryOf f.intent.tag with
    | some x => e.routeClass k f x.cls
    | none =>
      if e.coll.extCount = 0 then (e.cacheResult f.intent.tag 0 false).routeClass k f 0
      else ((e.setSlot k (.lookup f)).setLookupQ (e.coll.lookupQ ++ [k])).serveAll

/-- The header of the pack slot `k` has been placed in. -/
def Ev.isHeaderFor (e : Ev) (k : SlotNo) (w : OwnWrite) : Bool :=
  match w.kind, e.slot k with
  | .openHeader n _, .filling _ _ _ p => n == p.frame
  | _, _ => false

/-- The own writes of an OPEN that was taken, out of those its event has made (R12, R105): the header of the pack opened
for the file, then the slot's status word for its state at the end of the event. -/
def Ev.openWrites (e : Ev) (k : SlotNo) : Ev × List OwnWrite :=
  ({ e with made := e.made.filter (fun w => !(w.isStatusOf k || e.isHeaderFor k w)) },
   e.made.filter (e.isHeaderFor k) ++ [e.reportOf k])

/-- An OPEN for an IDLE slot (R23). -/
def Ev.openIdle (e : Ev) (k : SlotNo) (r : Requester) (d : List Byte) : Ev × List OwnWrite :=
  let f := newFile r d
  if f.intent.length = 0 then (e, [e.statusOf k .badLength f.lastReq])
  else if 16777216 < f.intent.length then (e, [e.statusOf k .tooLarge f.lastReq])
  else (e.decideRoute k f).openWrites k

/-- The file of a slot out of IDLE (R20). -/
def SlotEntry.file? : SlotEntry → Option File
  | .idle => none
  | .lookup f => some f
  | .waiting f _ _ => some f
  | .filling f _ _ _ => some f

/-- OPEN (R23, R25). -/
def Ev.actOpen (e : Ev) (k : SlotNo) (r : Requester) (d : List Byte) : Ev × List OwnWrite :=
  match (e.slot k).file? with
  | none => e.openIdle k r d
  | some f => (e, [e.statusOf k (if f.owner = r then .busy else .foreign) (recordReq d)])

/-! ### CLOSE and ABANDON -/

/-- The file with the request number of the CLOSE or ABANDON taken (R26). -/
def File.took (f : File) (req : Byte) : File := { f with lastReq := req }

/-- The slot a search serves is no longer claimed when it leaves the lookup queue (R77). -/
def Ev.unclaim (e : Ev) (k : SlotNo) : Ev :=
  match e.coll.search with
  | some s => if s.slot = k then e.setSearch (some { s with claimed := false }) else e
  | none => e

/-- A queued intent ended (R27): the slot leaves its queue and goes IDLE. -/
def Ev.endQueued (e : Ev) (k : SlotNo) : Ev :=
  match e.slot k with
  | .lookup _ => ((e.setLookupQ (e.coll.lookupQ.filter (fun j => j != k))).unclaim k).setSlot k .idle
  | .waiting _ _ _ => (e.leaveWait k).setSlot k .idle
  | _ => e

/-- CLOSE or ABANDON taken by the owner (R27, R29, R30). -/
def Ev.takeEnd (e : Ev) (k : SlotNo) (req : Byte) (reason : EndReason) : Ev × List OwnWrite :=
  match e.slot k with
  | .filling f _ _ p =>
    let r := e.endFile k (f.took req) p reason
    (r.1.sealIfEmpty p.frame, r.2)
  | _ => (e.endQueued k, [e.statusWrite k 0 .ended req 0 none 0])

/-- CLOSE or ABANDON (R26), by the end reason it gives. -/
def Ev.actEnd (e : Ev) (k : SlotNo) (r : Requester) (d : List Byte) (reason : EndReason) : Ev × List OwnWrite :=
  match (e.slot k).file? with
  | none => (e, [e.statusOf k .notOpen (recordReq d)])
  | some f => if f.owner = r then e.takeEnd k (recordReq d) reason else (e, [e.statusOf k .foreign (recordReq d)])

/-- A slot-record write in one of the two forms (R22). `whole` tells the 64-byte form from the 8-byte one. -/
def Ev.actRecord (e : Ev) (k : SlotNo) (r : Requester) (addr : UpAddr) (whole : Bool) (d : List Byte) : Ev × List OwnWrite :=
  if recordCode d = 0 then (e, [])
  else if recordCode d = 1 ∧ whole then e.actOpen k r d
  else if recordCode d = 2 then e.actEnd k r d .closed
  else if recordCode d = 3 then e.actEnd k r d .abandoned
  else (e.post .path (.malformed .code r addr), [])

/-! ### Data traffic -/

/-- What becomes of an upstream write (R3, R4, R12): answered RETRY; dropped, with what the drop does; or to be taken into
the store queue if there is room, with what its taking does and the own writes made with it. -/
inductive Verdict where
  | retry
  | drop (e : Ev)
  | take (e : Ev) (origin : UpOrigin) (addr : Nat) (data : List Byte) (own : List OwnWrite)

/-- The store address of an offset of a placed file: frame base + B0 + d + o (R36, R37). -/
def Ev.fileAddr (e : Ev) (p : Placement) (o : Nat) : Nat :=
  e.frameBase p.frame + (e.frame p.frame).params.bodyStart + p.offset + o

/-- A data write of the file in slot `k` (R36, R43 to R51). -/
def Ev.dataWrite (e : Ev) (k : SlotNo) (f : File) (c : ClassNo) (l : LaneNo) (p : Placement) (o : Nat) (d : List Byte) :
    Verdict :=
  let n := clamp f.intent.length o d.length
  if n = 0 then
    .drop (e.setSlot k (.filling { f with account := f.account.addOverrun d.length } c l p))
  else
    let f' := f.recordWrite o (d.take n) (d.length - n)
    let origin := UpOrigin.slotData k p.frame p.entry
    if f'.covered ∧ f'.intent.closeRequired = false then
      let r := e.endFile k f' p .covered
      .take (r.1.sealIfEmpty p.frame) origin (e.fileAddr p o) (d.take n) r.2
    else .take (e.setSlot k (.filling f' c l p)) origin (e.fileAddr p o) (d.take n) []

/-- A slot-window write (R35). -/
def Ev.slotWrite (e : Ev) (k : SlotNo) (o : Nat) (r : Requester) (addr : UpAddr) (d : List Byte) : Verdict :=
  match e.slot k with
  | .idle => .drop (e.countStray r addr)
  | .lookup f => if f.owner = r then .retry else .drop (e.countStray r addr)
  | .waiting f _ _ => if f.owner = r then .retry else .drop (e.countStray r addr)
  | .filling f c l p => if f.owner = r then e.dataWrite k f c l p o d else .drop (e.countStray r addr)

/-- What becomes of an upstream read (R3, R7, R37). -/
inductive ReadVerdict where
  | retry
  | noTarget
  | zeros (n : Nat)
  | store (q : ReadReq)
deriving DecidableEq, Repr

/-- A slot-window read (R37). -/
def State.slotRead (s : State) (k : SlotNo) (o : Nat) (r : Requester) (n : Nat) : ReadVerdict :=
  match s.slots.table.get k with
  | .idle => .noTarget
  | .lookup _ => .retry
  | .waiting _ _ _ => .retry
  | .filling f _ _ p =>
    if f.intent.length ≤ o then .zeros n
    else
      let len := min (o + n) f.intent.length - o
      .store { requester := r, addr := (Ev.start s).fileAddr p o, len := len, pad := n - len }

end Sys2Proof.Machine
end

