-- ==== Sys2Proof/Machine/Path.lean ====
section
/-! DEFINITION. The transaction path (chapter 1): how a request is judged and answered. One path for every request: the part
judges a request by its address, form and code, whatever row of the table names it (log 3). -/

namespace Sys2Proof.Machine

/-! ### Judging a write -/

/-- The consumer-index word written (R164): accepted, it consumes notices and clears FAULTED, and kept clearing writes are
made again (R167); the ring write follows at the end of the event. -/
def Ev.actConsumer (e : Ev) (d : List Byte) : Ev :=
  let v := consumerValue d
  if e.notes.accepts v then
    let u := e.notes.consume (v - e.notes.consumer).toNat e.notes.consumer
    let e := e.setNotes { u with consumer := v, faulted := false, keptClears := [] }
    { e with made := e.made ++ u.keptClears.map (clearingWrite e.decoder.control.store) }
  else e

/-- A write in the control window: it passes to memory, and its block acts on it (R6). -/
def Ev.controlWrite (e : Ev) (off : Nat) (r : Requester) (addr : UpAddr) (d : List Byte) : Verdict :=
  let r := match controlForm off d.length with
    | .command c => e.actCommand c d
    | .confirm c => e.actConfirm c d
    | .consumer => (e.actConsumer d, [])
    | .slotRecord k whole => e.actRecord k r addr whole d
    | .malformed => (e.post .path (.malformed .form r addr), [])
    | .plain => (e, [])
  .take r.1 .control (e.controlAddr off) d r.2

/-- A write in the pack window: passed if its frame is FREE, else dropped with PROTECT (R7). -/
def Ev.packWrite (e : Ev) (off : Nat) (r : Requester) (addr : UpAddr) (d : List Byte) : Verdict :=
  match e.packFrame off with
  | none => .drop (e.post .path (.protect .tail r addr))
  | some n =>
    if (e.frame n).state = .free then .take e (.pack n) (e.decoder.pack.store + off) d []
    else .drop (e.post .path (.protect (.notFree n) r addr))

/-- A write at an unclaimed address (R9). -/
def Ev.unclaimedWrite (e : Ev) (r : Requester) (addr : UpAddr) (d : List Byte) : Verdict :=
  if e.decoder.openPassage then
    if !belowStoreEnd addr.toNat d.length then .drop (e.countStray r addr)
    else if e.meetsRegions addr.toNat d.length then .drop (e.post .path (.protect .region r addr))
    else .take e .unclaimed addr.toNat d []
  else .drop (e.countStray r addr)

/-- A write judged in ACTIVE (R3 steps 4 and 5). -/
def Ev.activeWrite (e : Ev) (r : Requester) (addr : UpAddr) (d : List Byte) : Verdict :=
  if malformed addr d.length then .drop (e.post .path (.malformed .request r addr))
  else match e.decoder.place addr.toNat with
    | .control off => e.controlWrite off r addr d
    | .slot k o => e.slotWrite k o r addr d
    | .pack off => e.packWrite off r addr d
    | .pass k a readOnly =>
      if readOnly then .drop (e.post .path (.protect .readOnly r addr)) else .take e (.pass k) a d []
    | .unclaimed => e.unclaimedWrite r addr d

/-- A write judged in PASSIVE: identity translation, no block acting, no notice (R19). -/
def Ev.passiveWrite (e : Ev) (addr : UpAddr) (d : List Byte) : Verdict :=
  if malformed addr d.length || !belowStoreEnd addr.toNat d.length then .drop e
  else .take e .passive addr.toNat d []

/-- A write judged in the order of R3. -/
def Ev.judgeWrite (e : Ev) (r : Requester) (addr : UpAddr) (d : List Byte) : Verdict :=
  match e.loader.state with
  | .loading => .retry
  | .active => if e.port.linkReset then .retry else e.activeWrite r addr d
  | .passive => if e.port.linkReset then .retry else e.passiveWrite addr d

/-! ### Taking a write -/

/-- The queue entry of an upstream write (R11). -/
def upstreamEntry (r : Requester) (origin : UpOrigin) (addr : UpAddr) (storeAddr : Nat) (d : List Byte) : Entry :=
  { origin := .upstream r origin addr, countsFor := some r, addr := storeAddr, data := d, cancelled := false }

/-- The upstream write and the own writes made with it enter the queue together, and the write is answered ACCEPT (R12). -/
def Ev.acceptWrite (e : Ev) (r : Requester) (x : Entry) (own : List OwnWrite) : Ev :=
  (e.setQueue { e.queue with unsent := e.queue.unsent ++ x :: own.map (fun w => w.entry (some r)) }).answer r .accept

/-- RETRY: the request leaves no trace but its answer (R3). -/
def State.retry (s : State) (r : Requester) : State := { s.clearOut with linkOut := [{ r := r, answer := .retry }] }

/-- The verdict on a write carried out: a drop is answered ACCEPT (R4), a write that is to be taken is taken if the queue,
as it stood before the event, has room (R12), and answered RETRY if it has not. -/
def State.settleWrite (s : State) (r : Requester) (addr : UpAddr) : Verdict → State
  | .retry => s.retry r
  | .drop e => (e.answer r .accept).finish
  | .take e origin storeAddr d own =>
    if s.queue.hasRoom own.length then (e.acceptWrite r (upstreamEntry r origin addr storeAddr d) own).finish
    else s.retry r

/-- Whether a request of `r` is awaiting answer; while one is, the port takes no new request from `r` (R1). -/
def State.isAwaiting (s : State) (r : Requester) : Bool := (s.port.awaiting.get r).isSome

/-- An upstream WRITE on the ingest link (R1 to R12). -/
def State.takeWrite (s : State) (r : Requester) (addr : UpAddr) (d : List Byte) : State :=
  if s.isAwaiting r then s.clearOut
  else s.settleWrite r addr ((Ev.start s.clearOut).judgeWrite r addr d)

/-! ### Reads -/

/-- A read that has a store address (R3 step 7). -/
def storeRead (r : Requester) (addr n : Nat) : ReadVerdict :=
  .store { requester := r, addr := addr, len := n, pad := 0 }

/-- A pack-window read (R7). -/
def State.packRead (s : State) (off : Nat) (r : Requester) (n : Nat) : ReadVerdict :=
  match s.packFrame off with
  | none => .noTarget
  | some k => if (s.frames.table.get k).state = .sealing then .retry else storeRead r (s.decoder.pack.store + off) n

/-- A read at an unclaimed address (R9). -/
def State.unclaimedRead (s : State) (r : Requester) (addr : UpAddr) (n : Nat) : ReadVerdict :=
  if s.decoder.openPassage && belowStoreEnd addr.toNat n && !s.meetsRegions addr.toNat n then storeRead r addr.toNat n
  else .noTarget

/-- A read judged in ACTIVE (R2, R5 to R10). -/
def State.activeRead (s : State) (r : Requester) (addr : UpAddr) (n : Nat) : ReadVerdict :=
  if malformed addr n then .noTarget
  else match s.decoder.place addr.toNat with
    | .control off => storeRead r (s.controlAddr off) n
    | .slot k o => s.slotRead k o r n
    | .pack off => s.packRead off r n
    | .pass _ a _ => storeRead r a n
    | .unclaimed => s.unclaimedRead r addr n

/-- A read judged in the order of R3. -/
def State.judgeRead (s : State) (r : Requester) (addr : UpAddr) (n : Nat) : ReadVerdict :=
  match s.loader.state with
  | .loading => .retry
  | .active => if s.port.linkReset then .retry else s.activeRead r addr n
  | .passive =>
    if s.port.linkReset then .retry
    else if malformed addr n || !belowStoreEnd addr.toNat n then .noTarget
    else storeRead r addr.toNat n

/-- What requester `r` awaits, set. -/
def Ev.setAwaiting (e : Ev) (r : Requester) (x : Option Awaiting) : Ev :=
  e.setPort { e.port with awaiting := put e.port.awaiting r x }

/-- Requester `r`'s held read is sent once no unsent write counts as `r`'s (R14; log 20). -/
def Ev.sendRead (e : Ev) (r : Requester) : Ev :=
  match e.port.awaiting.get r with
  | some (.held q) =>
    if e.queue.owesTo r then e
    else ((e.setAwaiting r (some .sent)).setQueue
      { e.queue with reads := e.queue.reads ++ [{ read := q, live := true }] }).send (.read q.addr q.len)
  | _ => e

/-- An answer given in the event the request is taken, with no other effect. -/
def State.answerNow (s : State) (r : Requester) (a : Answer) : State :=
  { s.clearOut with linkOut := [{ r := r, answer := a }] }

/-- An upstream READ on the ingest link (R1 to R10, R14, R37). -/
def State.takeRead (s : State) (r : Requester) (addr : UpAddr) (n : Nat) : State :=
  if s.isAwaiting r then s.clearOut
  else match s.judgeRead r addr n with
    | .retry => s.retry r
    | .noTarget => s.answerNow r .noTarget
    | .zeros k => s.answerNow r (.data (List.replicate k 0))
    | .store q => s.clearOut.event (fun e => (e.setAwaiting r (some (.held q))).sendRead r)

/-! ### The commands of the path -/

/-- UPSTREAM_WRITE: a WRITE no block acts on (R12). -/
def execUpstreamWrite (r : Requester) (addr : UpAddr) (d : List Byte) (s : State) : Host.Outcome State Fault Refusal :=
  .next (s.takeWrite r addr d)

/-- UPSTREAM_READ: a READ outside the slot window (R14). -/
def execUpstreamRead (r : Requester) (addr : UpAddr) (n : Nat) (s : State) : Host.Outcome State Fault Refusal :=
  .next (s.takeRead r addr n)

/-- OPEN: a slot-record write with code OPEN (R23 to R25; `Ev.actOpen`). -/
def execOpen (r : Requester) (addr : UpAddr) (d : List Byte) (s : State) : Host.Outcome State Fault Refusal :=
  .next (s.takeWrite r addr d)

/-- CLOSE: a slot-record write with code CLOSE (R26, R27, R29; `Ev.actEnd`). -/
def execClose (r : Requester) (addr : UpAddr) (d : List Byte) (s : State) : Host.Outcome State Fault Refusal :=
  .next (s.takeWrite r addr d)

/-- ABANDON: a slot-record write with code ABANDON (R26, R27, R30; `Ev.actEnd`). -/
def execAbandon (r : Requester) (addr : UpAddr) (d : List Byte) (s : State) : Host.Outcome State Fault Refusal :=
  .next (s.takeWrite r addr d)

/-- DATA_WRITE: a slot-window write (R35, R36; `Ev.slotWrite`). -/
def execDataWrite (r : Requester) (addr : UpAddr) (d : List Byte) (s : State) : Host.Outcome State Fault Refusal :=
  .next (s.takeWrite r addr d)

/-- SLOT_READ: a slot-window read (R37; `State.slotRead`). -/
def execSlotRead (r : Requester) (addr : UpAddr) (n : Nat) (s : State) : Host.Outcome State Fault Refusal :=
  .next (s.takeRead r addr n)

/-- REGISTER: a command cell write with code 1 (R80, R144; `Ev.doRegister`). -/
def execRegister (r : Requester) (addr : UpAddr) (d : List Byte) (s : State) : Host.Outcome State Fault Refusal :=
  .next (s.takeWrite r addr d)

/-- UNREGISTER: a command cell write with code 2 (R81, R144; `Ev.doUnregister`). -/
def execUnregister (r : Requester) (addr : UpAddr) (d : List Byte) (s : State) : Host.Outcome State Fault Refusal :=
  .next (s.takeWrite r addr d)

/-- SET CLASS: a command cell write with code 3 (R145; `Ev.doSetClass`). -/
def execSetClass (r : Requester) (addr : UpAddr) (d : List Byte) (s : State) : Host.Outcome State Fault Refusal :=
  .next (s.takeWrite r addr d)

/-- SET PATTERN: a command cell write with code 4 (R148; `Ev.doSetPattern`). -/
def execSetPattern (r : Requester) (addr : UpAddr) (d : List Byte) (s : State) : Host.Outcome State Fault Refusal :=
  .next (s.takeWrite r addr d)

/-- SET TABLE: a command cell write with code 5 (R147; `Ev.doSetTable`). -/
def execSetTable (r : Requester) (addr : UpAddr) (d : List Byte) (s : State) : Host.Outcome State Fault Refusal :=
  .next (s.takeWrite r addr d)

/-- SET SERIAL: a command cell write with code 6 (R149; `Ev.doSetSerial`). -/
def execSetSerial (r : Requester) (addr : UpAddr) (d : List Byte) (s : State) : Host.Outcome State Fault Refusal :=
  .next (s.takeWrite r addr d)

/-- SET TIME: a command cell write with code 7 (R150; `Ev.doSetTime`). -/
def execSetTime (r : Requester) (addr : UpAddr) (d : List Byte) (s : State) : Host.Outcome State Fault Refusal :=
  .next (s.takeWrite r addr d)

/-- SET ATTENTION: a command cell write with code 8 (R151; `Ev.doSetAttention`). -/
def execSetAttention (r : Requester) (addr : UpAddr) (d : List Byte) (s : State) : Host.Outcome State Fault Refusal :=
  .next (s.takeWrite r addr d)

/-- DRAIN: a command cell write with code 9 (R152; `Ev.doDrain`). -/
def execDrain (r : Requester) (addr : UpAddr) (d : List Byte) (s : State) : Host.Outcome State Fault Refusal :=
  .next (s.takeWrite r addr d)

/-- FREEZE: a command cell write with code 10 (R143; `Ev.doFreeze`). -/
def execFreeze (r : Requester) (addr : UpAddr) (d : List Byte) (s : State) : Host.Outcome State Fault Refusal :=
  .next (s.takeWrite r addr d)

/-- RESUME: a command cell write with code 11 (R135, R153; `Ev.doResume`). -/
def execResume (r : Requester) (addr : UpAddr) (d : List Byte) (s : State) : Host.Outcome State Fault Refusal :=
  .next (s.takeWrite r addr d)

/-- DISCARD: a command cell write with code 12 (R136, R153; `Ev.doDiscard`). -/
def execDiscard (r : Requester) (addr : UpAddr) (d : List Byte) (s : State) : Host.Outcome State Fault Refusal :=
  .next (s.takeWrite r addr d)

/-- CONFIRM: a confirm cell write (R128, R129; `Ev.actConfirm`). -/
def execConfirm (r : Requester) (addr : UpAddr) (d : List Byte) (s : State) : Host.Outcome State Fault Refusal :=
  .next (s.takeWrite r addr d)

/-- CONSUMER_INDEX: a write of the consumer-index word (R164; `Ev.actConsumer`). -/
def execConsumerIndex (r : Requester) (addr : UpAddr) (d : List Byte) (s : State) : Host.Outcome State Fault Refusal :=
  .next (s.takeWrite r addr d)

/-- A command cell write with a code of 13..255, refused BAD_ARGUMENT (R141; `Ev.judgeCommand`). -/
def execCommandCodeRefused (r : Requester) (addr : UpAddr) (d : List Byte) (s : State) :
    Host.Outcome State Fault Refusal :=
  .next (s.takeWrite r addr d)

end Sys2Proof.Machine
end

