-- ==== Sys2Proof/Machine/Answers.lean ====
section
/-! DEFINITION. The store port (R11 to R18): sending the next write, and what each answer of the store does. -/

namespace Sys2Proof.Machine

/-! ### Sending -/

/-- The next unsent write leaves for the store, or, if it is cancelled, is freed with a PROTECT notice (R11, R98); a read
that waited for it may follow (R14). -/
def Ev.sendNext (e : Ev) : Ev :=
  match e.queue.unsent with
  | [] => e
  | x :: rest =>
    let e :=
      if x.cancelled then
        let e := e.setQueue { e.queue with unsent := rest }
        match x.origin with
        | .upstream r (.pack n) addr => e.post .path (.protect (.cancelled n) r addr)
        | _ => e
      else
        (e.setQueue { e.queue with unsent := rest, sent := e.queue.sent ++ [x] }).send (.write x.addr x.data)
    match x.countsFor with
    | some r => e.sendRead r
    | none => e

/-- WRITE_SEND (R11). -/
def execWriteSend (s : State) : Host.Outcome State Fault Refusal :=
  match s.queue.unsent with
  | [] => s.ignore
  | _ :: _ => s.run Ev.sendNext

/-! ### Answers to writes -/

/-- The FAULT flag of a frame set (R54, R92, R117, R121); the flag is present from OPEN on (R89; log 24). -/
def Ev.flagFault (e : Ev) (n : FrameNo) : Ev :=
  match (e.frame n).state with
  | .free => e
  | .reserved => e
  | _ => e.setFrame n { e.frame n with fault := true }

/-- A STORE_FAULT notice (R182). -/
def Ev.postFault (e : Ev) (w : FaultedWrite) (addr : Nat) : Ev := e.post .path (.storeFault w addr)

/-- STORE_FAULT set in the account of slot `k`'s file, if it is the file at the frame and entry given (R54, R55). -/
def Ev.markFileFault (e : Ev) (k : SlotNo) (n : FrameNo) (entry : Nat) : Ev :=
  match e.slot k with
  | .filling f c l p =>
    if p.frame = n ∧ p.entry = entry then
      e.setSlot k (.filling { f with account := { f.account with storeFault := true } } c l p)
    else e
  | _ => e

/-- FAULT answered to a slot data write (R54, R55). -/
def Ev.dataFault (e : Ev) (r : Requester) (k : SlotNo) (n : FrameNo) (entry addr len : Nat) : Ev :=
  ((e.markFileFault k n entry).flagFault n).postFault (.slotData r k n len) addr

/-- FAULT answered to an upstream write (R15): nothing is posted in PASSIVE (R19). -/
def Ev.upstreamFault (e : Ev) (r : Requester) (origin : UpOrigin) (x : Entry) : Ev :=
  match origin with
  | .slotData k n entry => e.dataFault r k n entry x.addr x.data.length
  | .passive => e
  | .control => e.postFault (.upstream r x.data.length) x.addr
  | .pack _ => e.postFault (.upstream r x.data.length) x.addr
  | .pass _ => e.postFault (.upstream r x.data.length) x.addr
  | .unclaimed => e.postFault (.upstream r x.data.length) x.addr

/-- The answer to the oldest sent write: its entry is freed (R15), and `f` says what the answer does, none if the entry is
not a write that this answer answers (log 6). -/
def State.answerWrite (s : State) (f : Entry → Ev → Option Ev) : Host.Outcome State Fault Refusal :=
  match s.queue.sent with
  | [] => .fault .answerNotDue
  | x :: rest =>
    let e := Ev.start s.clearOut
    match f x (e.setQueue { e.queue with sent := rest }) with
    | some e => .next e.finish
    | none => .fault .answerNotDue

/-- STORE_WRITE_ANSWER: the answer to an upstream write (R15). -/
def execStoreWriteAnswer (a : StoreAnswer) (s : State) : Host.Outcome State Fault Refusal :=
  s.answerWrite (fun x e =>
    match x.origin, a with
    | .upstream _ _ _, .done => some e
    | .upstream r origin _, .fault => some (e.upstreamFault r origin x)
    | .own _, _ => none)

/-- DATA_WRITE_FAULT (R54, R55). -/
def execDataWriteFault (s : State) : Host.Outcome State Fault Refusal :=
  s.answerWrite (fun x e =>
    match x.origin with
    | .upstream r (.slotData k n entry) _ => some (e.dataFault r k n entry x.addr x.data.length)
    | _ => none)

/-- STATUS_WORD_FAULT (R34): the store address reported is the record's. -/
def execStatusWordFault (s : State) : Host.Outcome State Fault Refusal :=
  s.answerWrite (fun x e =>
    match x.origin with
    | .own (.statusWord k) => some (e.postFault (.statusWord k) (e.controlAddr (slotRecordOff k)))
    | _ => none)

/-- OPEN_HEADER_ANSWER (R92). -/
def execOpenHeaderAnswer (a : StoreAnswer) (s : State) : Host.Outcome State Fault Refusal :=
  s.answerWrite (fun x e =>
    match x.origin, a with
    | .own (.openHeader _ _), .done => some e
    | .own (.openHeader n serial), .fault => some ((e.flagFault n).postFault (.openHeader n serial) x.addr)
    | _, _ => none)

/-- INDEX_ENTRY_ANSWER (R117). -/
def execIndexEntryAnswer (a : StoreAnswer) (s : State) : Host.Outcome State Fault Refusal :=
  s.answerWrite (fun x e =>
    match x.origin, a with
    | .own (.indexEntry _ _ _), .done => some e
    | .own (.indexEntry n entry serial), .fault =>
      some ((e.flagFault n).postFault (.indexEntry n entry serial) x.addr)
    | _, _ => none)

/-- The PACK_SEALED notice of a frame (R120). -/
def Ev.sealedBody (e : Ev) (n : FrameNo) : NoticeBody :=
  let f := e.frame n
  .packSealed n f.lane f.forced f.reason f.count (if f.mixed then 0 else f.tag) (f.params.bodyStart + f.fill) f.assigned
    f.body.digest f.serial

/-- A SEALING frame goes HELD with cause FAULT (R120, R121). -/
def Ev.holdFaulted (e : Ev) (n : FrameNo) : Ev :=
  (e.setFrame n { e.frame n with state := .held }).post .path (.packHeld n (e.frame n).serial false)

/-- The outcome of a seal whose header was answered DONE (R120); a frame that is not SEALING is left alone (R88). -/
def Ev.sealDone (e : Ev) (n : FrameNo) : Ev :=
  if (e.frame n).state = .sealing then
    if (e.frame n).fault then e.holdFaulted n
    else (e.setFrame n { e.frame n with state := .sealed }).post .path (e.sealedBody n)
  else e

/-- SEAL_HEADER_DONE (R120). -/
def execSealHeaderDone (s : State) : Host.Outcome State Fault Refusal :=
  s.answerWrite (fun x e =>
    match x.origin with
    | .own (.sealHeader n _) => some (e.sealDone n)
    | _ => none)

/-- The outcome of a seal whose header was answered FAULT (R121). -/
def Ev.sealFault (e : Ev) (n : FrameNo) (serial addr : Nat) : Ev :=
  let e := (e.flagFault n).postFault (.sealHeader n serial) addr
  if (e.frame n).state = .sealing then e.holdFaulted n else e

/-- SEAL_HEADER_FAULT (R121). -/
def execSealHeaderFault (s : State) : Host.Outcome State Fault Refusal :=
  s.answerWrite (fun x e =>
    match x.origin with
    | .own (.sealHeader n serial) => some (e.sealFault n serial x.addr)
    | _ => none)

/-- CONFIRM_STATUS_FAULT (R137): the store address reported is the cell's. -/
def execConfirmStatusFault (s : State) : Host.Outcome State Fault Refusal :=
  s.answerWrite (fun x e =>
    match x.origin with
    | .own (.confirmStatus c) => some (e.postFault (.confirmStatus c) (e.controlAddr (confirmCellOff c)))
    | _ => none)

/-- COMMAND_STATUS_FAULT (R142): the store address reported is the cell's. -/
def execCommandStatusFault (s : State) : Host.Outcome State Fault Refusal :=
  s.answerWrite (fun x e =>
    match x.origin with
    | .own (.commandStatus c) => some (e.postFault (.commandStatus c) (e.controlAddr (commandCellOff c)))
    | _ => none)

/-- DESCRIPTION_RECORD_FAULT (R156). -/
def execDescriptionRecordFault (s : State) : Host.Outcome State Fault Refusal :=
  s.answerWrite (fun x e =>
    match x.origin with
    | .own .description => some (e.postFault .description x.addr)
    | _ => none)

/-- NOTICE_WRITE_DONE (R162); the next ring write follows at the end of the event. -/
def execNoticeWriteDone (s : State) : Host.Outcome State Fault Refusal :=
  s.answerWrite (fun x e =>
    match x.origin with
    | .own .notice => some (e.setNotes e.notes.writeDone)
    | _ => none)

/-- NOTICE_WRITE_FAULT (R165). -/
def execNoticeWriteFault (s : State) : Host.Outcome State Fault Refusal :=
  s.answerWrite (fun x e =>
    match x.origin with
    | .own .notice => some (e.setNotes e.notes.writeFault)
    | _ => none)

/-- CLEARING_WRITE_ANSWER (R167): DONE counts the entry as cleared; FAULT enters FAULTED and keeps the write. -/
def execClearingWriteAnswer (a : StoreAnswer) (s : State) : Host.Outcome State Fault Refusal :=
  s.answerWrite (fun x e =>
    match x.origin, a with
    | .own (.clearing _), .done => some (e.setNotes { e.notes with toClear := e.notes.toClear - 1 })
    | .own (.clearing p), .fault =>
      some (e.setNotes { e.notes with faulted := true, keptClears := insertPos p e.notes.keptClears })
    | _, _ => none)

/-- PASSIVE_RECORD_ANSWER (R175): nothing is posted or written again on FAULT. -/
def execPassiveRecordAnswer (_a : StoreAnswer) (s : State) : Host.Outcome State Fault Refusal :=
  s.answerWrite (fun x e =>
    match x.origin with
    | .own .passiveRecord => some e
    | _ => none)

/-- OWN_WRITE_DONE: DONE to a slot, confirm or command status word or to a description record write (R15). -/
def execOwnWriteDone (s : State) : Host.Outcome State Fault Refusal :=
  s.answerWrite (fun x e =>
    match x.origin with
    | .own (.statusWord _) => some e
    | .own (.confirmStatus _) => some e
    | .own (.commandStatus _) => some e
    | .own .description => some e
    | _ => none)

/-! ### Answers to reads -/

/-- What a requester is answered for its read (R16, R37): the bytes, then the zero bytes beyond the declared length. -/
def readAnswerOf (q : ReadReq) : ReadAnswer → Answer
  | .data bytes => .data (bytes ++ List.replicate q.pad 0)
  | .fault => .dataFault

/-- The number of bytes of an answer is the number asked for. -/
def fitsRead (a : ReadAnswer) (q : ReadReq) : Bool :=
  match a with
  | .data bytes => bytes.length == q.len
  | .fault => true

/-- READ_ANSWER (R16): the answer to the oldest requester read; discarded if its request is no longer awaiting. -/
def execReadAnswer (a : ReadAnswer) (s : State) : Host.Outcome State Fault Refusal :=
  match s.queue.reads with
  | [] => .fault .answerNotDue
  | x :: rest =>
    if x.live then
      if fitsRead a x.read then
        s.run (fun e => ((e.setQueue { e.queue with reads := rest }).setAwaiting x.read.requester none).answer
          x.read.requester (readAnswerOf x.read a))
      else .fault .answerLength
    else s.run (fun e => e.setQueue { e.queue with reads := rest })

/-- The bytes of an answer to a probe are the 16 asked for (R74). -/
def fitsProbe : ProbeAnswer → Bool
  | .data bytes => bytes.length == 16
  | .fault => true

/-- PROBE_ANSWER (R74 to R76): the answer to the oldest probe; discarded if its lookup has been abandoned (R16). -/
def execProbeAnswer (a : ProbeAnswer) (s : State) : Host.Outcome State Fault Refusal :=
  match s.queue.probes with
  | [] => .fault .answerNotDue
  | x :: rest =>
    if x.live && !fitsProbe a then .fault .answerLength
    else
      s.run (fun e =>
        let e := e.setQueue { e.queue with probes := rest }
        match x.live, e.coll.search with
        | true, some q => (e.searchStep q a).serveAll
        | _, _ => e)

end Sys2Proof.Machine
end

