-- ==== Sys2Proof/Machine/Resets.lean ====
section
/-! DEFINITION. The link reset (R17, R18, R40, R78, R87, R109, R123, R156, R167): what the ingest port does at once, and the
link-reset actions of the blocks, each an event of its own, in a free order (log 9, 11). -/

namespace Sys2Proof.Machine

/-- The ingest port and store queue at a link reset: requests awaiting are discarded, held reads removed, and the answers
of reads already sent will be discarded (R17, R18). -/
def State.discardRequests (s : State) : State :=
  { s with
    port := { s.port with awaiting := Vector.replicate 16 none }
    queue := { s.queue with reads := s.queue.reads.map (fun x => { x with live := false }) } }

/-- A queued intent ended by the reset (R40): IDLE, with its ENDED status word held. -/
def Ev.resetQueued (e : Ev) (k : SlotNo) : Ev :=
  match (e.slot k).file? with
  | some f => (e.setSlot k .idle).hold (e.statusWrite k 0 .ended f.lastReq 0 none 0)
  | none => e

/-- One slot taken by the slot engine's link-reset action (R40). -/
def Ev.resetSlot (e : Ev) (k : SlotNo) : Ev :=
  match e.slot k with
  | .filling _ _ _ _ => e.endFileHeld k .reset
  | _ => e.resetQueued k

/-- The slot engine's link-reset action (R40): every slot in ascending number, and both queues emptied. -/
def Ev.resetSlots (e : Ev) : Ev := (((List.finRange 512).foldl Ev.resetSlot e).setLookupQ []).setWaitQ []

/-- The lane table after its link-reset action (R87): lane 0 MIXED, lanes 1..31 unbound, no lane with a frame. -/
def clearedLanes : Vector Lane 32 := (Vector.replicate 32 Lane.unbound).set 0 { Lane.unbound with binding := .mixed }

/-- The lane table's link-reset action (R87), and the collection table's, taken in the same event (R78). Frames made FREE
are not granted (R109). -/
def Ev.resetLanes (e : Ev) : Ev :=
  let e := (List.finRange 32).foldl Ev.returnReserved (e.closeLanes (List.finRange 32) .reset)
  { e with
    lanes := { e.lanes with table := clearedLanes }
    coll := { e.coll with entries := (e.coll.entries.filter CollEntry.pinned).map (fun c => { c with lane := none })
                          search := none }
    queue := { e.queue with probes := e.queue.probes.map (fun x => { x with live := false }) } }

/-- The notice unit's link-reset action (R167). -/
def Ev.resetNotices (e : Ev) : Ev := e.post .path (.resetDone true 0)

/-- The link-reset actions of the blocks; the frame table's is to keep what it holds (R109). -/
inductive ResetAction where
  | slots
  | lanes
  | description
  | notices
deriving DecidableEq, Repr

/-- One action as an event (R17). -/
def State.resetAction (s : State) (a : ResetAction) : State :=
  s.event (fun e =>
    match a with
    | .slots => e.resetSlots
    | .lanes => e.resetLanes
    | .description => e.rewriteDescription
    | .notices => e.resetNotices)

/-- The four actions in the order the free numbers pick; every order is possible. -/
def resetOrder (q : Nat → Nat) : List ResetAction :=
  putAmong (q 5) .notices (putAmong (q 4) .description (putAmong (q 0) .lanes [.slots]))

/-- The link-reset handling in ACTIVE (R17): every action taken, then the port is back to normal. -/
def State.handleLinkReset (s : State) : State :=
  let s := { s with port := { s.port with linkReset := true } }
  let s := (resetOrder (Config.orderChoice s.choice)).foldl State.resetAction s
  { s with port := { s.port with linkReset := false } }

/-- LINK_RESET (R17, R169, R176): no second handling while one is in progress; the blocks act in ACTIVE only. -/
def execLinkReset (s : State) : Host.Outcome State Fault Refusal :=
  if s.port.linkReset then s.ignore
  else if s.loader.state = .active then .next s.clearOut.discardRequests.handleLinkReset
  else .next s.clearOut.discardRequests

end Sys2Proof.Machine
end

