-- ==== Sys2Proof/Machine/Startup.lean ====
section
/-! DEFINITION. The profile loader (chapter 11): parsing and checking a profile, entering ACTIVE and PASSIVE, power-on reset. -/

namespace Sys2Proof.Machine

/-! ### The profile (R170, R186) -/

/-- A class as the profile gives it: the class after the clamps of R171, with its A and OWN_LANE fields as read, which are
checked and not clamped (R173). -/
structure ProfileClass where
  cls : ClassRec
  ownLaneRead : Nat
  alignRead : Nat
deriving DecidableEq, Repr

/-- A profile after the clamps of R171. -/
structure Profile where
  windows : List Window
  exp : Nat
  openPassage : Bool
  nF : Nat
  hold : Nat
  floor : Nat
  straggler : Nat
  period : Nat
  masks : Vector (BitVec 16) 4
  extBase : Nat
  extCount : Nat
  preamble : List Byte
  attnMask : BitVec 16
  classes : Vector ProfileClass 8
deriving DecidableEq, Repr

/-- The least power of two, from `p` doubled at most `fuel` times, at or above `n`. -/
def powerAtLeast (n : Nat) : Nat → Nat → Nat
  | 0, p => p
  | fuel + 1, p => if n ≤ p then p else powerAtLeast n fuel (p * 2)

/-- The decode span of the pack window: the smallest power of two at or above N_F frames (R172). N_F reads below 2^16. -/
def decodeSpan (nF exp : Nat) : Nat := powerAtLeast nF 16 1 * 2 ^ exp

/-- The size of window `i`: fixed for the control and slot windows, derived for the pack window, read for a pass window
(R170, R172). -/
def profileWindowSize (d : List Byte) (i : Nat) : Nat :=
  match i with
  | 0 => 131072
  | 1 => 8589934592
  | 2 => decodeSpan (field d 170 2) (field d 168 1)
  | _ => field d (i * 24 + 8) 8

/-- Window `i` of a profile (R186): the slot window has no store base, and only pass windows have the read-only option. -/
def profileWindow (d : List Byte) (i : Nat) : Window :=
  { base := field d (i * 24) 6, size := profileWindowSize d i,
    store := if i = 1 then 0 else field d (i * 24 + 16) 5, readOnly := decide (3 ≤ i) && bitAt d (i * 24 + 6) 0 }

/-- Class `c` of a profile, clamped as SET CLASS clamps (R145, R171). -/
def profileClass (d : List Byte) (c : Nat) : ProfileClass :=
  let at_ := 216 + c * 16
  let files := clampFiles (field d (at_ + 4) 2)
  { ownLaneRead := field d at_ 1, alignRead := field d (at_ + 6) 2,
    cls :=
      { ownLane := field d at_ 1 != 0
        params := { files := files, align := field d (at_ + 6) 2,
                    target := clampTarget (field d 168 1) files (field d (at_ + 2) 2),
                    quiet := field d (at_ + 8) 2, age := field d (at_ + 10) 2,
                    copies := clampCopies (field d (at_ + 1) 1) } } }

/-- The profile in 1,024 bytes, read by R186 and brought into range by R171. -/
def parseProfile (d : List Byte) : Profile :=
  { windows := (List.range 7).map (profileWindow d), exp := field d 168 1, openPassage := bitAt d 169 0,
    nF := field d 170 2, hold := field d 172 2, floor := field d 174 1, straggler := field d 176 2,
    period := clampPeriod (field d 178 1),
    masks := Vector.ofFn (fun p => BitVec.ofNat 16 (field d (180 + 2 * p.val) 2)),
    extBase := clampBase (field d 188 5), extCount := clampCount (field d 196 4),
    preamble := (d.drop 200).take 8, attnMask := BitVec.ofNat 16 (field d 208 2 % 1024),
    classes := Vector.ofFn (fun c => profileClass d c.val) }

/-! ### The checks (R171, R172) -/

/-- A failure: its code and two details (R171). -/
structure ProfileFailure where
  code : Nat
  detail1 : Nat
  detail2 : Nat
deriving DecidableEq, Repr

/-- A window by its number (R171). -/
def Profile.window (p : Profile) (i : Nat) : Window := p.windows.getD i Window.absent

/-- A window is present unless its size is 0 (R170). -/
def Window.present (w : Window) : Bool := w.size != 0

/-- The window numbers of the pass windows (R171). -/
def passNumbers : List Nat := [3, 4, 5, 6]

/-- A size a pass window may have: 0, or a power of two 2^12..2^40 (R170). -/
def passSizeOk (n : Nat) : Bool := n == 0 || (List.range 29).any (fun k => n == 2 ^ (k + 12))

/-- Check 2 of R171. -/
def Profile.checkGeometry (p : Profile) : Option ProfileFailure :=
  if 26 ≤ p.exp ∧ p.exp ≤ 32 ∧ 16 ≤ p.nF ∧ p.nF ≤ 1024 then none
  else some { code := 2, detail1 := p.exp, detail2 := p.nF }

/-- Check 3 of R171. -/
def Profile.checkSize (p : Profile) : Option ProfileFailure :=
  (passNumbers.find? (fun i => !passSizeOk (p.window i).size)).map
    (fun i => { code := 3, detail1 := i, detail2 := (p.window i).size })

/-- Check 4 of R171. -/
def Profile.checkAlign (p : Profile) : Option ProfileFailure :=
  ((List.range 7).find? (fun i => (p.window i).present && (p.window i).base % (p.window i).size != 0)).map
    (fun i => { code := 4, detail1 := i, detail2 := (p.window i).size })

/-- The pairs (i, j) of window numbers with i below j, in ascending i and then ascending j (R172). -/
def windowPairs : List (Nat × Nat) :=
  (List.range 7).flatMap (fun i => ((List.range 7).filter (fun j => decide (i < j))).map (fun j => (i, j)))

/-- Check 5 of R171. -/
def Profile.checkOverlap (p : Profile) : Option ProfileFailure :=
  (windowPairs.find? (fun x => (p.window x.1).present && (p.window x.2).present
    && rangesMeet (p.window x.1).base (p.window x.1).size (p.window x.2).base (p.window x.2).size)).map
    (fun x => { code := 5, detail1 := x.1, detail2 := x.2 })

/-- The bytes of the pack region: N_F frames (R172). -/
def Profile.packBytes (p : Profile) : Nat := p.nF * 2 ^ p.exp

/-- The number by which a free choice knows which of its cases hold: bit i for case i. -/
def casesMask : List Bool → Nat
  | [] => 0
  | b :: bs => bit b + 2 * casesMask bs

/-- One of the failing items of a check whose order R171 does not state: any of them, freely (log 18). -/
def freeItem {α : Type} (check mask : Nat) (items : List α) : Option α :=
  items[Config.detailChoice check mask % items.length]?

/-- The items of a check, each with whether it fails, reduced to one that fails, if any does (log 18). -/
def failing {α : Type} (check : Nat) (items : List (Bool × α)) : Option α :=
  freeItem check (casesMask (items.map Prod.fst)) ((items.filter Prod.fst).map Prod.snd)

/-- Check 6 of R171. -/
def Profile.checkRegion (p : Profile) : Option ProfileFailure :=
  let control := (p.window 0).store
  let pack := (p.window 2).store
  (failing 6 [(!belowStoreEnd control 131072, 0), (!belowStoreEnd pack p.packBytes, 1),
      (rangesMeet control 131072 pack p.packBytes, 2)]).map
    (fun k => { code := 6, detail1 := k, detail2 := 0 })

/-- What is wrong with the store range of a pass window (R171, check 7). -/
def Profile.passFaults (p : Profile) (w : Window) : List (Bool × Nat) :=
  [(!belowStoreEnd w.store w.size, 0), (rangesMeet w.store w.size (p.window 2).store p.packBytes, 1),
   (rangesMeet w.store w.size (p.window 0).store 131072, 2)]

/-- Check 7 of R171. -/
def Profile.checkPass (p : Profile) : Option ProfileFailure :=
  match passNumbers.find? (fun i => (p.window i).present && (p.passFaults (p.window i)).any Prod.fst) with
  | some i => (failing 7 (p.passFaults (p.window i))).map (fun k => { code := 7, detail1 := i, detail2 := k })
  | none => none

/-- Check 8 of R171. -/
def Profile.checkClass (p : Profile) : Option ProfileFailure :=
  (failing 8 ((List.finRange 8).flatMap (fun c =>
      [((p.classes.get c).alignRead != 512 && (p.classes.get c).alignRead != 4096, (c.val, 1)),
       (decide (1 < (p.classes.get c).ownLaneRead), (c.val, 2))]))).map
    (fun x => { code := 8, detail1 := x.1, detail2 := x.2 })

/-- Check 9 of R171. -/
def Profile.checkParameter (p : Profile) : Option ProfileFailure :=
  (failing 9 [(decide (3600 < p.hold), (1, p.hold)), (decide (64 < p.floor), (2, p.floor)),
      (decide (3600 < p.straggler), (3, p.straggler))]).map
    (fun x => { code := 9, detail1 := x.1, detail2 := x.2 })

/-- Checks 2 to 9 in order; the first that fails gives the failure (R171). -/
def Profile.check (p : Profile) : Option ProfileFailure :=
  p.checkGeometry <|> p.checkSize <|> p.checkAlign <|> p.checkOverlap <|> p.checkRegion <|> p.checkPass
    <|> p.checkClass <|> p.checkParameter

/-! ### Entering ACTIVE and PASSIVE -/

/-- Each block takes its fields of the checked profile (R174). -/
def Ev.takeProfile (e : Ev) (p : Profile) : Ev :=
  { e with
    loader := { e.loader with state := .active }
    decoder := { control := p.window 0, slot := p.window 1, pack := p.window 2,
                 pass := Vector.ofFn (fun k => p.window (k.val + 3)), openPassage := p.openPassage }
    frames := { e.frames with exp := p.exp, nF := p.nF, floor := p.floor, straggler := p.straggler,
                              preamble := p.preamble }
    lanes := { e.lanes with hold := p.hold }
    coll := { e.coll with classes := Vector.ofFn (fun c => (p.classes.get c).cls), extBase := p.extBase,
                          extCount := p.extCount }
    copy := { period := p.period, counter := 0, masks := p.masks }
    cmd := { e.cmd with attnMask := p.attnMask } }

/-- The 1,024 clearing writes of the ring, in ascending position (R167). -/
def clearingWrites (base : Nat) : List OwnWrite := (List.finRange 1024).map (fun p => clearingWrite base (BitVec.ofFin p))

/-- The profile loader enters ACTIVE (R174, R157, R167). -/
def Ev.enterActive (e : Ev) (p : Profile) : Ev :=
  let e := (e.takeProfile p).rewriteDescription
  ({ e with made := e.made ++ clearingWrites e.decoder.control.store } : Ev).post .path
    (.resetDone false e.loader.strap.val)

/-- The profile loader enters PASSIVE (R175) with a failure, the check word read and the digest formed: the passive record
is the one own write. -/
def Ev.enterPassive (e : Ev) (f : ProfileFailure) (check digest : Nat) : Ev :=
  ({ e with loader := { e.loader with state := .passive } } : Ev).hold
    { kind := .passiveRecord, addr := 0,
      data := passiveRecordBytes e.loader.strap.val f.code f.detail1 f.detail2 check digest }

/-- The code READ_ERROR with a sub-cause (R169, R171). -/
def readError (sub detail2 : Nat) : ProfileFailure := { code := 1, detail1 := sub, detail2 := detail2 }

/-- The profile judged once all its bytes are delivered (R168, R169, R171). -/
def Ev.judgeProfile (e : Ev) (d : List Byte) : Ev :=
  let check := field d 1020 4
  let digest := (digestOf (d.take 1020)).toNat
  if digest ≠ check then e.enterPassive (readError 3 digest) check digest
  else match (parseProfile d).check with
    | some f => e.enterPassive f check digest
    | none => e.enterActive (parseProfile d)

/-- PROFILE_READ_DONE (R168, R169, R171): out of the configuration memory the loader takes the profile its strap sample
names, and no other. The memory's answer is ignored unless the loader is LOADING; the memory holds 4,096 bytes (log 23). -/
def execProfileReadDone (memory : List Byte) (s : State) : Host.Outcome State Fault Refusal :=
  if s.loader.state = .loading ∧ memory.length = 4096 then
    s.run (fun e => e.judgeProfile (profileAt memory e.loader.strap))
  else s.ignore

/-- PROFILE_READ_ERROR (R169). -/
def execProfileReadError (s : State) : Host.Outcome State Fault Refusal :=
  if s.loader.state = .loading then s.run (fun e => e.enterPassive (readError 1 0) 0 0) else s.ignore

/-- The profile read gives up: LOADING, and the tick count has reached 4 (R169). -/
def Ev.readTimeout (e : Ev) : Ev :=
  if e.loader.state = .loading ∧ 4 ≤ e.lanes.tick.toNat then e.enterPassive (readError 2 0) 0 0 else e

/-- PROFILE_READ_TIMEOUT (R169): the inner step of the tick that brings the count to 4 (log 10). -/
def execProfileReadTimeout (s : State) : Host.Outcome State Fault Refusal :=
  if s.loader.state = .loading ∧ 4 ≤ s.lanes.tick.toNat then s.run Ev.readTimeout else s.ignore

/-- POWER_ON_RESET (R168, R19, R39, R82, R107, R124, R138, R157, R167): every piece of state at its power-on value, the
straps sampled, and the read of the profile they name begun. The waiting commands and the counter of free choices are the
model's own and go on (log 28). -/
def execPowerOnReset (straps : Fin 4) (s : State) : Host.Outcome State Fault Refusal :=
  .next { State.reset with
    loader := { state := .loading, strap := straps }
    configOut := [profileRead straps]
    choice := s.choice + 1
    pending := s.pending }

end Sys2Proof.Machine
end

