-- ==== Sys2Proof/Machine/Timers.lean ====
section
/-! DEFINITION. The 1 Hz tick and the frame timers (R111 to R115, R150, R169). -/

namespace Sys2Proof.Machine

/-- The quiet time of a frame in seconds: 0 stands for 900 (R112). -/
def Params.quietSeconds (p : Params) : Nat := if p.quiet = 0 then 900 else p.quiet

/-- The age limit of a frame in seconds: 0 stands for 1,440 minutes (R113). -/
def Params.ageSeconds (p : Params) : Nat := 60 * (if p.age = 0 then 1440 else p.age)

/-- The straggler time in seconds: 0 stands for 120 (R114). -/
def FrameTable.stragglerSeconds (t : FrameTable) : Nat := if t.straggler = 0 then 120 else t.straggler

/-- The quiet timer of an OPEN frame has expired (R112), by the rule's formula. With a quiet time of 1 a placement taken
just before the tick leaves a difference of 1, and the frame closes, although the rule's case of a placement taken first
says it does not: DESIGN CHOICE, unsafe (log 35). -/
def State.quietDue (s : State) (f : Frame) : Bool :=
  f.state == .opened && decide (f.params.quietSeconds ≤ s.since f.lastPlace)

/-- The age timer of an OPEN frame has expired (R113). -/
def State.ageDue (s : State) (f : Frame) : Bool :=
  f.state == .opened && decide (f.params.ageSeconds ≤ s.since f.openTick)

/-- The straggler timer of a CLOSING frame has expired (R115). -/
def State.stragglerDue (s : State) (f : Frame) : Bool :=
  f.state == .closing && decide (s.frames.stragglerSeconds ≤ s.since f.closeTick)

/-- The frame closes with reason QUIET, if its quiet timer has expired and its age timer has not (R112, R113). -/
def Ev.expireQuiet (e : Ev) (n : FrameNo) : Ev :=
  if e.quietDue (e.frame n) && !e.ageDue (e.frame n) then e.closeFrame n .quiet else e

/-- The frame closes with reason AGE, if its age timer has expired (R113). -/
def Ev.expireAge (e : Ev) (n : FrameNo) : Ev := if e.ageDue (e.frame n) then e.closeFrame n .age else e

/-- A file of slot `k` placed in frame `n` ends FORCED (R115). -/
def Ev.forceEnd (n : FrameNo) (e : Ev) (k : SlotNo) : Ev :=
  match e.slot k with
  | .filling _ _ _ p => if p.frame = n then e.endFileHeld k .forced else e
  | _ => e

/-- The frame is FORCED, its files end in ascending slot number and its seal begins, if its straggler timer has expired
(R115). -/
def Ev.expireStraggler (e : Ev) (n : FrameNo) : Ev :=
  if e.stragglerDue (e.frame n) then
    ((List.finRange 512).foldl (Ev.forceEnd n) (e.setFrame n { e.frame n with forced := true })).sealIfEmpty n
  else e

/-- The timers of one frame tested: the age and quiet timers of an OPEN frame, else the straggler timer of a CLOSING one
(R111). A frame closed at this test is not tested again before the next tick. -/
def Ev.testFrame (e : Ev) (n : FrameNo) : Ev :=
  match (e.frame n).state with
  | .opened => if e.ageDue (e.frame n) then e.expireAge n else e.expireQuiet n
  | .closing => e.expireStraggler n
  | _ => e

/-- The tick count and the bridge time rise by one (R82, R111, R150). -/
def Ev.countTick (e : Ev) : Ev :=
  { e with lanes := { e.lanes with tick := e.lanes.tick + 1 }, cmd := { e.cmd with bridgeTime := e.cmd.bridgeTime + 1 } }

/-- The timers of every frame tested in ascending frame number, in ACTIVE (R111, R176). -/
def Ev.testTimers (e : Ev) : Ev :=
  if e.loader.state = .active then e.frameNos.foldl Ev.testFrame { e with inOrder := true } else e

/-- TICK (R111, R150, R169). -/
def execTick (s : State) : Host.Outcome State Fault Refusal := s.run (fun e => e.countTick.readTimeout.testTimers)

/-- QUIET_EXPIRY of frame `n` (R112): the inner step of the tick (log 10). -/
def execQuietExpiry (n : FrameNo) (s : State) : Host.Outcome State Fault Refusal :=
  if s.loader.state = .active then s.run (fun e => e.expireQuiet n) else s.ignore

/-- AGE_EXPIRY of frame `n` (R113): the inner step of the tick (log 10). -/
def execAgeExpiry (n : FrameNo) (s : State) : Host.Outcome State Fault Refusal :=
  if s.loader.state = .active then s.run (fun e => e.expireAge n) else s.ignore

/-- STRAGGLER_EXPIRY of frame `n` (R115): the inner step of the tick (log 10). -/
def execStragglerExpiry (n : FrameNo) (s : State) : Host.Outcome State Fault Refusal :=
  if s.loader.state = .active then s.run (fun e => ({ e with inOrder := true } : Ev).expireStraggler n) else s.ignore

end Sys2Proof.Machine
end

