-- ==== Sys2Proof/Machine/Dispatch.lean ====
section
/-! DEFINITION. What each command does: one arm for each constructor of Instr, in the table's order. -/

namespace Sys2Proof.Machine

def exec (i : Instr) (s : State) : Host.Outcome State Fault Refusal :=
  match i with
  | .powerOnReset straps => Sys2Proof.Machine.execPowerOnReset straps s
  | .profileReadDone bytes => Sys2Proof.Machine.execProfileReadDone bytes s
  | .profileReadError => Sys2Proof.Machine.execProfileReadError s
  | .profileReadTimeout => Sys2Proof.Machine.execProfileReadTimeout s
  | .linkReset => Sys2Proof.Machine.execLinkReset s
  | .upstreamWrite r addr data => Sys2Proof.Machine.execUpstreamWrite r addr data s
  | .upstreamRead r addr len => Sys2Proof.Machine.execUpstreamRead r addr len s
  | .openFile r addr data => Sys2Proof.Machine.execOpen r addr data s
  | .closeFile r addr data => Sys2Proof.Machine.execClose r addr data s
  | .abandonFile r addr data => Sys2Proof.Machine.execAbandon r addr data s
  | .dataWrite r addr data => Sys2Proof.Machine.execDataWrite r addr data s
  | .slotRead r addr len => Sys2Proof.Machine.execSlotRead r addr len s
  | .register r addr data => Sys2Proof.Machine.execRegister r addr data s
  | .unregister r addr data => Sys2Proof.Machine.execUnregister r addr data s
  | .setClass r addr data => Sys2Proof.Machine.execSetClass r addr data s
  | .setPattern r addr data => Sys2Proof.Machine.execSetPattern r addr data s
  | .setTable r addr data => Sys2Proof.Machine.execSetTable r addr data s
  | .setSerial r addr data => Sys2Proof.Machine.execSetSerial r addr data s
  | .setTime r addr data => Sys2Proof.Machine.execSetTime r addr data s
  | .setAttention r addr data => Sys2Proof.Machine.execSetAttention r addr data s
  | .drain r addr data => Sys2Proof.Machine.execDrain r addr data s
  | .freeze r addr data => Sys2Proof.Machine.execFreeze r addr data s
  | .resume r addr data => Sys2Proof.Machine.execResume r addr data s
  | .discard r addr data => Sys2Proof.Machine.execDiscard r addr data s
  | .confirm r addr data => Sys2Proof.Machine.execConfirm r addr data s
  | .consumerIndex r addr data => Sys2Proof.Machine.execConsumerIndex r addr data s
  | .writeSend => Sys2Proof.Machine.execWriteSend s
  | .storeWriteAnswer a => Sys2Proof.Machine.execStoreWriteAnswer a s
  | .dataWriteFault => Sys2Proof.Machine.execDataWriteFault s
  | .statusWordFault => Sys2Proof.Machine.execStatusWordFault s
  | .openHeaderAnswer a => Sys2Proof.Machine.execOpenHeaderAnswer a s
  | .indexEntryAnswer a => Sys2Proof.Machine.execIndexEntryAnswer a s
  | .sealHeaderDone => Sys2Proof.Machine.execSealHeaderDone s
  | .sealHeaderFault => Sys2Proof.Machine.execSealHeaderFault s
  | .confirmStatusFault => Sys2Proof.Machine.execConfirmStatusFault s
  | .commandStatusFault => Sys2Proof.Machine.execCommandStatusFault s
  | .descriptionRecordFault => Sys2Proof.Machine.execDescriptionRecordFault s
  | .noticeWriteDone => Sys2Proof.Machine.execNoticeWriteDone s
  | .noticeWriteFault => Sys2Proof.Machine.execNoticeWriteFault s
  | .clearingWriteAnswer a => Sys2Proof.Machine.execClearingWriteAnswer a s
  | .passiveRecordAnswer a => Sys2Proof.Machine.execPassiveRecordAnswer a s
  | .readAnswer a => Sys2Proof.Machine.execReadAnswer a s
  | .probeAnswer a => Sys2Proof.Machine.execProbeAnswer a s
  | .tick => Sys2Proof.Machine.execTick s
  | .quietExpiry n => Sys2Proof.Machine.execQuietExpiry n s
  | .ageExpiry n => Sys2Proof.Machine.execAgeExpiry n s
  | .stragglerExpiry n => Sys2Proof.Machine.execStragglerExpiry n s
  | .ownWriteDone => Sys2Proof.Machine.execOwnWriteDone s
  | .commandCodeRefused r addr data => Sys2Proof.Machine.execCommandCodeRefused r addr data s

end Sys2Proof.Machine
end

