-- ==== Sys2Proof/Safety.lean ====
section
/-! DEFINITION. The terms in which claims about the part are stated: when a command is taken and acts, what a taken write
leaves in the store queue, what is kept, and the properties every step keeps. -/

namespace Sys2Proof.Safety

open Sys2Proof.Machine

/-! ### When a command is taken -/

/-- ACTIVE, with no link reset being handled (R3 steps 1 to 3). -/
abbrev AtWork (s : State) : Prop := s.loader.state = .active ∧ s.port.linkReset = false

/-- The part is at work and requester `r` awaits no answer (R1, R3). -/
abbrev Hears (s : State) (r : Requester) : Prop := AtWork s ∧ s.port.awaiting.get r = none

/-- A request that is not malformed (R2). -/
abbrev WellSized (addr : UpAddr) (n : Nat) : Prop := 1 ≤ n ∧ n ≤ 512 ∧ addr.toNat % 4096 + n ≤ 4096

/-- Room for an upstream write made with `own` own writes (R11, R12, R13). -/
abbrev RoomFor (s : State) (own : Nat) : Prop :=
  s.queue.upCount < 48 ∧ (own = 0 ∨ (s.queue.held = [] ∧ s.queue.ownCount + own ≤ 16))

/-- A write the part hears that lies at control-window offset `off`. -/
abbrev AtControl (s : State) (r : Requester) (addr : UpAddr) (d : List Byte) (off : Nat) : Prop :=
  Hears s r ∧ WellSized addr d.length ∧ s.decoder.place addr.toNat = .control off

/-- A whole command cell with code `code` written at cell `c`, with room for it and its status word (R6, R12, R140). -/
abbrev CommandDue (s : State) (r : Requester) (addr : UpAddr) (d : List Byte) (c : CellNo) (code : Nat) : Prop :=
  AtControl s r addr d (0x0400 + c.val * 64) ∧ d.length = 64 ∧ RoomFor s 1 ∧ field d 0 1 = code

/-- A whole confirm cell with a request number other than 0 written at cell `c`, with room (R6, R12, R128). -/
abbrev ConfirmDue (s : State) (r : Requester) (addr : UpAddr) (d : List Byte) (c : CellNo) : Prop :=
  AtControl s r addr d (0x0800 + c.val * 64) ∧ d.length = 64 ∧ RoomFor s 1 ∧ field d 0 1 ≠ 0

/-- A slot-record write of slot `k` with code `code` in a form the code has, with room for `own` own writes (R6, R22). -/
abbrev RecordDue (s : State) (r : Requester) (addr : UpAddr) (d : List Byte) (k : SlotNo) (code own : Nat) : Prop :=
  AtControl s r addr d (0x1000 + k.val * 64) ∧ (d.length = 64 ∨ (d.length = 8 ∧ code ≠ 1)) ∧ RoomFor s own
    ∧ field d 0 1 = code

/-- A write the part hears at offset `o` of slot `k` in the slot window (R6). -/
abbrev SlotDue (s : State) (r : Requester) (addr : UpAddr) (n : Nat) (k : SlotNo) (o : Nat) : Prop :=
  Hears s r ∧ WellSized addr n ∧ s.decoder.place addr.toNat = .slot k o

/-- The class of an OPEN's file is decided at once, by its hint or by its tag's entry, and its lane is `l` (R24, R69, R83
steps 1 to 3). -/
abbrev RoutedTo (s : State) (d : List Byte) (c : ClassNo) (l : LaneNo) : Prop :=
  let entry := s.coll.entries.find? (fun x => x.tag == BitVec.ofNat 32 (field d 8 4))
  (field d 22 1 = c.val ∨ (8 ≤ field d 22 1 ∧ entry.map (fun x => x.cls) = some c))
    ∧ (((s.coll.classes.get c).ownLane = false ∧ l = 0)
      ∨ ((s.coll.classes.get c).ownLane = true ∧ entry = none ∧ l = 0)
      ∨ ((s.coll.classes.get c).ownLane = true ∧ entry.map (fun x => x.lane) = some (some l)))

/-- A declared length that an OPEN may have (R23). -/
abbrev LengthOk (d : List Byte) : Prop := 1 ≤ field d 12 4 ∧ field d 12 4 ≤ 16777216

/-! ### What is kept -/

/-- The loader, the window decoder, the ingest port and the waiting commands are as they were. -/
abbrev KeepsPath (s t : State) : Prop :=
  t.loader = s.loader ∧ t.decoder = s.decoder ∧ t.port = s.port ∧ t.pending = s.pending

/-- No notice was posted, consumed or answered: at most the ring write of the head was made (R162). -/
abbrev KeepsNotices (s t : State) : Prop :=
  t.notes.pending = s.notes.pending ∧ t.notes.producer = s.notes.producer ∧ t.notes.consumer = s.notes.consumer
    ∧ t.notes.lap = s.notes.lap ∧ t.notes.records = s.notes.records ∧ t.notes.faulted = s.notes.faulted
    ∧ t.notes.tallies = s.notes.tallies ∧ t.notes.strayOut = s.notes.strayOut ∧ t.notes.toClear = s.notes.toClear
    ∧ t.notes.keptClears = s.notes.keptClears

/-- The packing machinery is as it was: slots, collections, lanes, frames and the copy pattern. -/
abbrev KeepsPacking (s t : State) : Prop :=
  t.slots = s.slots ∧ t.coll = s.coll ∧ t.lanes = s.lanes ∧ t.frames = s.frames ∧ t.copy = s.copy

/-! ### The store queue -/

/-- An own write of the part made in the step: in the queue by now, or held (R13). -/
abbrev Made (t : State) (w : OwnWrite) : Prop := w.entry none ∈ t.queue.unsent ∨ w ∈ t.queue.held

/-- An upstream write taken (R12): its entry and the own writes made with it stand behind all that was queued, in that
order; held own writes may have entered behind them (R13); the write was answered ACCEPT. -/
abbrev Queued (s t : State) (r : Requester) (x : Entry) (own : List OwnWrite) : Prop :=
  (∃ later : List OwnWrite, t.queue.unsent
      = s.queue.unsent ++ (x :: own.map (fun w => w.entry (some r))) ++ later.map (fun w => w.entry none))
    ∧ t.queue.sent = s.queue.sent ∧ t.queue.reads = s.queue.reads ∧ t.linkOut = [{ r := r, answer := .accept }]

/-- An upstream write taken, and nothing sent to the store. -/
abbrev Took (s t : State) (r : Requester) (x : Entry) (own : List OwnWrite) : Prop :=
  Queued s t r x own ∧ t.queue.probes = s.queue.probes ∧ t.storeOut = []

/-- An entry with the mark of R98, if it is a pack-window write to frame `g`. -/
def markedFor (g : FrameNo) (x : Entry) : Entry :=
  match x.origin with
  | .upstream _ (.pack m) _ => if m = g then { x with cancelled := true } else x
  | _ => x

/-- An entry without the mark of R98. -/
abbrev unmarked (x : Entry) : Entry := { x with cancelled := false }

/-- An upstream write taken in the event in which frame `g` leaves FREE: as Took, but that the unsent pack-window writes to
`g` are cancelled (R12, R98). -/
abbrev TookOpening (s t : State) (g : FrameNo) (r : Requester) (x : Entry) (own : List OwnWrite) : Prop :=
  (∃ later : List OwnWrite, t.queue.unsent
      = s.queue.unsent.map (markedFor g) ++ (x :: own.map (fun w => w.entry (some r)))
        ++ later.map (fun w => w.entry none))
    ∧ t.queue.sent = s.queue.sent ∧ t.queue.reads = s.queue.reads ∧ t.queue.probes = s.queue.probes
    ∧ t.linkOut = [{ r := r, answer := .accept }] ∧ t.storeOut = []

/-- An upstream write taken in an event in which frames may go RESERVED: as Took, whatever marks of R98 the entries bear. -/
abbrev TookUnmarked (s t : State) (r : Requester) (x : Entry) (own : List OwnWrite) : Prop :=
  (∃ later : List OwnWrite, t.queue.unsent.map unmarked
      = s.queue.unsent.map unmarked ++ (x :: own.map (fun w => w.entry (some r)))
        ++ later.map (fun w => w.entry none))
    ∧ t.queue.sent = s.queue.sent ∧ t.queue.reads = s.queue.reads ∧ t.queue.probes = s.queue.probes
    ∧ t.linkOut = [{ r := r, answer := .accept }] ∧ t.storeOut = []

/-- A command that leaves nothing but an answer on the link (R3). -/
abbrev AnswersOnly (s : State) (c : Instr) (r : Requester) (a : Answer) : Prop :=
  exec c s = .next { s with linkOut := [{ r := r, answer := a }], storeOut := [], configOut := [] }

/-- A read with a store address taken (R14): sent at once when no unsent write counts as its requester's, and else held;
the requester awaits its answer either way, and nothing else changes. -/
abbrev ReadTaken (s t : State) (q : ReadReq) : Prop :=
  let owed := s.queue.unsent.any (fun x => x.countsFor == some q.requester)
  (owed = false → t.port.awaiting.get q.requester = some .sent ∧ t.storeOut = [.read q.addr q.len]
      ∧ t.queue.reads = s.queue.reads ++ [{ read := q, live := true }])
    ∧ (owed = true → t.port.awaiting.get q.requester = some (.held q) ∧ t.storeOut = []
      ∧ t.queue.reads = s.queue.reads)
    ∧ (∀ p, p ≠ q.requester → t.port.awaiting.get p = s.port.awaiting.get p)
    ∧ t.port.linkReset = s.port.linkReset ∧ t.linkOut = [] ∧ t.queue.sent = s.queue.sent
    ∧ t.queue.probes = s.queue.probes ∧ t.loader = s.loader ∧ t.decoder = s.decoder
    ∧ KeepsPacking s t ∧ KeepsNotices s t ∧ t.cmd = s.cmd

/-- Own writes `own` cannot be made with an upstream write: no upstream entry is free, or own entries are short (R12). -/
abbrev NoRoom (s : State) (own : Nat) : Prop :=
  48 ≤ s.queue.upCount ∨ (own ≠ 0 ∧ (s.queue.held ≠ [] ∨ 16 < s.queue.ownCount + own))

/-- The queue's line of writes with the held ones behind the unsent (R11, R13), whatever marks of R98 they bear. -/
abbrev writeLine (q : StoreQueue) : List Entry :=
  (q.unsent ++ q.held.map (fun w => w.entry none)).map (fun x => { x with cancelled := false })

/-- A write dropped: answered ACCEPT with no entry taken; held own writes may have entered (R4, R13). -/
abbrev Dropped (s t : State) (r : Requester) : Prop :=
  (∃ later : List OwnWrite, t.queue.unsent = s.queue.unsent ++ later.map (fun w => w.entry none))
    ∧ t.queue.sent = s.queue.sent ∧ t.queue.reads = s.queue.reads ∧ t.queue.probes = s.queue.probes
    ∧ t.linkOut = [{ r := r, answer := .accept }] ∧ t.storeOut = []

/-- A command cell write taken with its status word behind it (R140, R142, R180). -/
abbrev Commanded (s t : State) (r : Requester) (addr : UpAddr) (d : List Byte) (c : CellNo) (status : CmdStatus)
    (result : List Byte) : Prop :=
  KeepsPath s t
    ∧ Took s t r (upstreamEntry r .control addr (s.decoder.control.store + (0x0400 + c.val * 64)) d)
        [t.commandStatusWrite c (BitVec.ofNat 8 (field d 1 1)) (BitVec.ofNat 8 (field d 0 1))
          { status := status, result := result }]

/-- The entry of a command cell write and the status word that answers it DONE with a result (R140, R142, R180). -/
abbrev doneWrites (s t : State) (r : Requester) (addr : UpAddr) (d : List Byte) (c : CellNo) (result : List Byte) :
    Entry × List OwnWrite :=
  (upstreamEntry r .control addr (s.decoder.control.store + (0x0400 + c.val * 64)) d,
    [t.commandStatusWrite c (BitVec.ofNat 8 (field d 1 1)) (BitVec.ofNat 8 (field d 0 1))
      { status := .done, result := result }])

/-- A command cell write answered DONE in an event in which frames may go RESERVED (R98, R99). -/
abbrev DoneUnmarked (s t : State) (r : Requester) (addr : UpAddr) (d : List Byte) (c : CellNo) (result : List Byte) : Prop :=
  KeepsPath s t
    ∧ TookUnmarked s t r (doneWrites s t r addr d c result).1 (doneWrites s t r addr d c result).2

/-- The description record made from the values after the step, with the next rewrite count (R155, R156). -/
abbrev Described (s t : State) : Prop :=
  t.cmd.rewrites = s.cmd.rewrites + 1
    ∧ Made t { kind := .description, addr := t.decoder.control.store, data := t.descriptionBytes t.cmd.rewrites }

/-- The oldest sent write `x` answered: its entry is freed, and held own writes may have entered (R13, R15). -/
abbrev Freed (s t : State) (rest : List Entry) : Prop :=
  t.queue.sent = rest ∧ t.queue.reads = s.queue.reads ∧ t.queue.probes = s.queue.probes
    ∧ (∃ later : List OwnWrite, t.queue.unsent = s.queue.unsent ++ later.map (fun w => w.entry none))
    ∧ t.linkOut = [] ∧ t.storeOut = []

/-- The notice unit that was `u`, after the notices `l` are posted in this order in one event and the ring write is made
(R159, R160, R162). -/
abbrev PostedFrom (u : NoticeUnit) (t : State) (l : List NoticeBody) : Prop :=
  t.notes = ((l.foldl (fun u b => u.enqueue { time := t.cmd.bridgeTime, body := b }) u).ringWrite
    t.decoder.control.store).1

/-- The notices `l` posted in this order in one event (R158). -/
abbrev Posted (s t : State) (l : List NoticeBody) : Prop := PostedFrom s.notes t l

/-- A stray of requester `r` counted (R38): with a STRAY of `r` outstanding it waits in the tally; with none, a STRAY is
posted with the tally, which restarts. -/
abbrev Strayed (s t : State) (r : Requester) (addr : UpAddr) : Prop :=
  (s.notes.strayOut.get r = true →
    PostedFrom { s.notes with tallies := put s.notes.tallies r (min (s.notes.tallies.get r + 1) 65535) } t [])
    ∧ (s.notes.strayOut.get r = false →
      PostedFrom { s.notes with tallies := put s.notes.tallies r 0, strayOut := put s.notes.strayOut r true } t
        [.stray r (min (s.notes.tallies.get r + 1) 65535) addr])

/-! ### Frames -/

/-- Every frame but `n` is as it was. -/
abbrev OtherFrames (s t : State) (n : FrameNo) : Prop :=
  ∀ m : FrameNo, m ≠ n → t.frames.table.get m = s.frames.table.get m

/-- The frame table but for its records, and the tick count and lane hold time, are as they were. -/
abbrev KeepsGeometry (s t : State) : Prop :=
  t.frames.exp = s.frames.exp ∧ t.frames.nF = s.frames.nF ∧ t.frames.floor = s.frames.floor
    ∧ t.frames.straggler = s.frames.straggler ∧ t.frames.preamble = s.frames.preamble
    ∧ t.lanes.tick = s.lanes.tick ∧ t.lanes.hold = s.lanes.hold

/-- A frame with record `f` after a seal has begun by copy pattern `u` (R118, R126). -/
abbrev sealingRecord (u : CopyUnit) (f : Frame) : Frame :=
  { f with state := .sealing, assigned := u.assign f.params.copies, confirmed := 0, mismatches := 0 }

/-- Frame `n` was released: FREE with its record cleared, unless a lane has taken it as its RESERVED frame at once (R99,
R132). -/
abbrev FreedFrame (t : State) (n : FrameNo) : Prop :=
  t.frames.table.get n = Frame.free
    ∨ ∃ l : LaneNo, t.frames.table.get n = { Frame.free with state := .reserved, lane := l }
        ∧ (t.lanes.table.get l).reserved = some n

/-- Frame numbers of the part (R88). -/
abbrev InUse (s : State) (n : FrameNo) : Prop := n.val < s.frames.nF

/-- Frame `g` is the lowest-numbered FREE frame (R93, R99, R104). -/
abbrev LowestFree (s : State) (g : FrameNo) : Prop :=
  InUse s g ∧ (s.frames.table.get g).state = .free ∧ ∀ m : FrameNo, m < g → (s.frames.table.get m).state ≠ .free

/-- Frame `g` is the one a new pack of lane `l` takes: its RESERVED frame, or with none the lowest-numbered FREE one
(R93). -/
abbrev FrameFor (s : State) (l : LaneNo) (g : FrameNo) : Prop :=
  ((s.lanes.table.get l).reserved = some g ∧ (s.frames.table.get g).state = .reserved
      ∧ (s.frames.table.get g).lane = l)
    ∨ ((s.lanes.table.get l).reserved = none ∧ LowestFree s g)

/-- Lane `l` holds frame `n` as its OPEN frame, and the frame's record says so (R82, R88). -/
abbrev HoldsOpen (s : State) (l : LaneNo) (n : FrameNo) : Prop :=
  (s.lanes.table.get l).openFrame = some n ∧ (s.frames.table.get n).state = .opened ∧ (s.frames.table.get n).lane = l

/-! ### Files and packs -/

/-- The file of an OPEN that was taken (R20, R23, R41, R58): its writer the owner, the intent of its record, an empty
account and zero sums. -/
abbrev openedFile (r : Requester) (d : List Byte) : File :=
  { owner := r, lastReq := BitVec.ofNat 8 (field d 1 1),
    intent := { tag := BitVec.ofNat 32 (field d 8 4), length := field d 12 4, serial := field d 16 6,
                nameDigest := field d 24 8, hint := field d 22 1, closeRequired := bitAt d 23 0 },
    account := { coverage := .tracked [], digestVoid := false, overrun := false, overrunCount := 0,
                 storeFault := false },
    acc := { s := 0, p := 0 } }

/-- The file of a FILLING slot, with its placement. -/
def placedFile : SlotEntry → Option (File × Placement)
  | .filling f _ _ p => some (f, p)
  | .idle | .lookup _ | .waiting _ _ _ => none

/-- The file of a slot in LOOKUP or WAITING. -/
def queuedFile : SlotEntry → Option File
  | .lookup f | .waiting f _ _ => some f
  | .idle | .filling _ _ _ _ => none

/-- The bytes a file of length `n` takes in a pack with alignment `a`: ceil(n / a) x a (R94). -/
abbrev allocated (n a : Nat) : Nat := (n + a - 1) / a * a

/-- A file of length `n` fits in the pack with record `f` (R94). -/
abbrev Fits (s : State) (f : Frame) (n : Nat) : Prop :=
  f.count < f.params.files
    ∧ f.fill + allocated n f.params.align ≤ 2 ^ s.frames.exp - (512 + f.params.files * 64)

/-- The pack with record `f` stays OPEN when a file of length `n` is placed in it: it is then below its target and its
count (R95). -/
abbrev StaysOpen (f : Frame) (n : Nat) : Prop :=
  f.count + 1 < f.params.files ∧ f.fill + allocated n f.params.align < f.params.target * 1048576

/-- The record `f` after a file of length `n` is placed (R94). -/
abbrev withFile (f : Frame) (n : Nat) (tick : Seconds) : Frame :=
  { f with fill := f.fill + allocated n f.params.align, count := f.count + 1, inFlight := f.inFlight + 1,
           lastPlace := tick }

/-- The record of a pack just opened in a lane `l` that is bound as `b` says (R96, R97). -/
abbrev packRecord (s : State) (l : LaneNo) (b : Binding) : Frame :=
  let c : ClassNo := match b with
    | .collection _ c => c
    | _ => 0
  { Frame.free with
    state := .opened, lane := l, serial := s.cmd.nextSerial, cls := c, params := (s.coll.classes.get c).params,
    tag := (match b with
      | .collection t _ => t
      | _ => 0),
    mixed := decide (l = 0), openTick := s.lanes.tick, openTime := s.cmd.bridgeTime, lastPlace := s.lanes.tick }

/-- The entries of the collection table after the entry of `tag`, if there is one, has moved to the most recent place
(R86). -/
abbrev touched (tag : Tag) (l : List CollEntry) : List CollEntry :=
  match l.find? (fun x => x.tag == tag) with
  | some x => x :: l.filter (fun y => y.tag != tag)
  | none => l

/-- A lane's last-placement time after a placement in it: the tick count, but in lane 0, which keeps none (R86). -/
abbrev placedAt (s : State) (l : LaneNo) : Seconds :=
  if l = 0 then (s.lanes.table.get l).lastPlace else s.lanes.tick

/-- The OPEN of slot `k` opened frame `g` as a new pack of lane `l`, bound as `b` says, and placed its file there as the
first: the next serial is taken; behind what was queued stand the record write, the header and the status word PLACED
(R12, R91, R105); writes to a frame that leaves FREE, still unsent, are cancelled (R98). -/
abbrev OpensPack (s t : State) (r : Requester) (addr : UpAddr) (d : List Byte) (k : SlotNo) (c : ClassNo) (l : LaneNo)
    (b : Binding) (g : FrameNo) : Prop :=
  let f := packRecord s l b
  t.cmd = { s.cmd with nextSerial := s.cmd.nextSerial + 1 }
    ∧ (t.lanes.table.get l).openFrame = some g ∧ (t.lanes.table.get l).binding = b
    ∧ (t.lanes.table.get l).lastPlace = placedAt s l
    ∧ t.frames.table.get g = withFile f (field d 12 4) s.lanes.tick
    ∧ (∀ j : SlotNo, t.slots.table.get j
        = if j = k then .filling (openedFile r d) c l { frame := g, entry := 0, offset := 0 }
          else s.slots.table.get j)
    ∧ (∃ (front : List Entry) (later : List OwnWrite), t.queue.unsent
          = front ++ (upstreamEntry r .control addr (s.decoder.control.store + (0x1000 + k.val * 64)) d
              :: [s.openHeaderWrite g f,
                  s.statusWrite k 3 .placed (BitVec.ofNat 8 (field d 1 1)) 0
                    (some { frame := g, entry := 0, serial := s.cmd.nextSerial }) 0].map (fun w => w.entry (some r)))
            ++ later.map (fun w => w.entry none)
        ∧ front.map (fun x => { x with cancelled := false })
            = s.queue.unsent.map (fun x => { x with cancelled := false })
        ∧ ((s.frames.table.get g).state = .free →
          ∀ x ∈ front, ∀ q a, x.origin = .upstream q (.pack g) a → x.cancelled = true))
    ∧ t.queue.sent = s.queue.sent ∧ t.queue.reads = s.queue.reads ∧ t.queue.probes = s.queue.probes
    ∧ t.linkOut = [{ r := r, answer := .accept }] ∧ t.storeOut = [] ∧ KeepsPath s t

/-- The record of OPEN frame `n` after a cause of closing, and the copy pattern with it (R110, R116, R118): CLOSING while a
file is in flight, else SEALING with its header made. -/
abbrev ClosedRecord (s t : State) (n : FrameNo) (reason : SealReason) : Prop :=
  let f := { s.frames.table.get n with state := .closing, reason := some reason, closeTick := s.lanes.tick }
  (f.inFlight ≠ 0 → t.frames.table.get n = f ∧ t.copy = s.copy)
    ∧ (f.inFlight = 0 → t.frames.table.get n = sealingRecord s.copy f ∧ t.copy = s.copy.advance
      ∧ Made t (t.sealHeaderWrite n (t.frames.table.get n)))

/-- OPEN frame `n` was closed for a reason (R110), and no other frame changed. -/
abbrev ClosedFor (s t : State) (n : FrameNo) (reason : SealReason) : Prop :=
  ClosedRecord s t n reason ∧ OtherFrames s t n

/-- Lane `l` was given a reservation of frame `m`. -/
abbrev NewReserve (s t : State) (l : LaneNo) (m : FrameNo) : Prop :=
  (s.lanes.table.get l).reserved ≠ some m ∧ (t.lanes.table.get l).reserved = some m

/-- Lane `l` is bound and holds an OPEN frame and no RESERVED one (R99). -/
abbrev Lacks (t : State) (l : LaneNo) : Prop :=
  (t.lanes.table.get l).binding ≠ .unbound ∧ (t.lanes.table.get l).openFrame.isSome = true
    ∧ (t.lanes.table.get l).reserved = none

/-- The reservations of an event that found state `s` and left `t` (R99): each went to a bound lane with an OPEN frame,
took a frame below all that stay FREE, and left the standby floor FREE; lower lanes came first, with lower frames; and no
lane is left without one while more than the floor is FREE, the queue is empty and serials are left. -/
abbrev Reserves (s t : State) : Prop :=
  (∀ l m, NewReserve s t l m →
      (t.lanes.table.get l).binding ≠ .unbound ∧ (t.lanes.table.get l).openFrame.isSome = true
      ∧ t.frames.table.get m = { Frame.free with state := .reserved, lane := l } ∧ InUse s m
      ∧ (∀ m' : FrameNo, m' < m → (t.frames.table.get m').state ≠ .free)
      ∧ t.frames.floor ≤ t.countFrames .free ∧ t.frames.waitQ = [] ∧ t.cmd.nextSerial < 2 ^ 48
      ∧ (∀ l' : LaneNo, l' < l → ¬Lacks t l')
      ∧ (∀ (l' : LaneNo) (m' : FrameNo), l' < l → NewReserve s t l' m' → m' < m))
    ∧ (∀ l, Lacks t l → t.frames.waitQ = [] → t.cmd.nextSerial < 2 ^ 48 → t.countFrames .free ≤ t.frames.floor)

/-- The OPEN frame of lane `l`, if it holds one, was closed for a reason, and the copy pattern moved only by its seal
(R110, R116, R118). -/
abbrev ClosesLane (s t : State) (l : LaneNo) (reason : SealReason) : Prop :=
  (∀ n, (s.lanes.table.get l).openFrame = some n → ClosedRecord s t n reason)
    ∧ ((s.lanes.table.get l).openFrame = none → t.copy = s.copy)

/-- Lane `l` lost its OPEN frame, if it held one, and no other frame changed and no slot joined or left the frame-wait
queue. -/
abbrev ClosesOnly (s t : State) (l : LaneNo) (reason : SealReason) : Prop :=
  ClosesLane s t l reason
    ∧ (∀ j : FrameNo, (s.lanes.table.get l).openFrame ≠ some j → t.frames.table.get j = s.frames.table.get j)
    ∧ t.frames.waitQ = s.frames.waitQ

/-- Lane `l` lost its OPEN frame, if it held one, and its RESERVED frame `m` returned to FREE; reservations follow, and
other lanes keep what they hold (R99, R100). -/
abbrev GivesUp (s t : State) (l : LaneNo) (m : FrameNo) (reason : SealReason) : Prop :=
  ClosesLane s t l reason ∧ FreedFrame t m ∧ Reserves s t
    ∧ (∀ j : FrameNo, j ≠ m → (s.lanes.table.get l).openFrame ≠ some j → (s.frames.table.get j).state ≠ .free →
      t.frames.table.get j = s.frames.table.get j)
    ∧ (∀ k : LaneNo, k ≠ l → (t.lanes.table.get k).binding = (s.lanes.table.get k).binding
      ∧ (t.lanes.table.get k).openFrame = (s.lanes.table.get k).openFrame
      ∧ (t.lanes.table.get k).lastPlace = (s.lanes.table.get k).lastPlace
      ∧ (∀ j, (s.lanes.table.get k).reserved = some j → (t.lanes.table.get k).reserved = some j))
    ∧ t.frames.waitQ = [] ∧ t.slots = s.slots ∧ t.cmd = s.cmd ∧ KeepsGeometry s t

/-- The entry of slot `j` after the slots that wait for lane `l` are recorded as waiting for lane 0 (R84, R85). -/
abbrev movedWaiter (s : State) (l : LaneNo) (j : SlotNo) : SlotEntry :=
  match s.slots.table.get j with
  | .waiting f c m => .waiting f c (if j ∈ s.frames.waitQ ∧ m = l then 0 else m)
  | x => x

/-! ### Commands by their shape -/

/-- The write a command carries, for the commands that are upstream writes. -/
def asWrite : Instr → Option (Requester × UpAddr × List Byte)
  | .upstreamWrite r a d | .openFile r a d | .closeFile r a d | .abandonFile r a d | .dataWrite r a d
  | .register r a d | .unregister r a d | .setClass r a d | .setPattern r a d | .setTable r a d | .setSerial r a d
  | .setTime r a d | .setAttention r a d | .drain r a d | .freeze r a d | .resume r a d | .discard r a d
  | .confirm r a d | .consumerIndex r a d | .commandCodeRefused r a d => some (r, a, d)
  | .powerOnReset _ | .profileReadDone _ | .profileReadError | .profileReadTimeout | .linkReset | .upstreamRead _ _ _
  | .slotRead _ _ _ | .writeSend | .storeWriteAnswer _ | .dataWriteFault | .statusWordFault | .openHeaderAnswer _
  | .indexEntryAnswer _ | .sealHeaderDone | .sealHeaderFault | .confirmStatusFault | .commandStatusFault
  | .descriptionRecordFault | .noticeWriteDone | .noticeWriteFault | .clearingWriteAnswer _ | .passiveRecordAnswer _
  | .readAnswer _ | .probeAnswer _ | .tick | .quietExpiry _ | .ageExpiry _ | .stragglerExpiry _ | .ownWriteDone => none

/-- The commands that are answers of the store (R15, R16). -/
def isStoreAnswer : Instr → Bool
  | .storeWriteAnswer _ | .dataWriteFault | .statusWordFault | .openHeaderAnswer _ | .indexEntryAnswer _
  | .sealHeaderDone | .sealHeaderFault | .confirmStatusFault | .commandStatusFault | .descriptionRecordFault
  | .noticeWriteDone | .noticeWriteFault | .clearingWriteAnswer _ | .passiveRecordAnswer _ | .readAnswer _
  | .probeAnswer _ | .ownWriteDone => true
  | .powerOnReset _ | .profileReadDone _ | .profileReadError | .profileReadTimeout | .linkReset | .upstreamWrite _ _ _
  | .upstreamRead _ _ _ | .openFile _ _ _ | .closeFile _ _ _ | .abandonFile _ _ _ | .dataWrite _ _ _
  | .slotRead _ _ _ | .register _ _ _ | .unregister _ _ _ | .setClass _ _ _ | .setPattern _ _ _ | .setTable _ _ _
  | .setSerial _ _ _ | .setTime _ _ _ | .setAttention _ _ _ | .drain _ _ _ | .freeze _ _ _ | .resume _ _ _
  | .discard _ _ _ | .confirm _ _ _ | .consumerIndex _ _ _ | .writeSend | .tick | .quietExpiry _ | .ageExpiry _
  | .stragglerExpiry _ | .commandCodeRefused _ _ _ => false

/-! ### Coverage -/

/-- The fixed form of an extent list within a file of length `n` (R42): ordered, non-empty ranges that neither share an
offset nor touch, and lie in [0, n). -/
def orderedFrom (n : Nat) : Nat → List Extent → Bool
  | _, [] => true
  | lo, x :: xs => decide (lo ≤ x.start ∧ x.start < x.stop ∧ x.stop ≤ n) && orderedFrom n (x.stop + 1) xs

/-- A file's coverage is in the form of R42. -/
def coverageOk (f : File) : Bool :=
  match f.account.coverage with
  | .tracked l => decide (l.length ≤ 8) && orderedFrom f.intent.length 0 l
  | .scattered => true

/-- An offset lies in a range of the list. -/
def covers (l : List Extent) (i : Nat) : Prop := ∃ x ∈ l, x.start ≤ i ∧ i < x.stop

/-! ### Properties that every step keeps -/

/-- The extent list of every file is in the form of R42. -/
abbrev ExtentsOk (s : State) : Prop := ∀ k : SlotNo, ∀ f, (s.slots.table.get k).file? = some f → coverageOk f = true

/-- Both sums of a pair lie in 0..65,520 (R56). -/
abbrev AccOk (a : Acc) : Prop := a.s < 65521 ∧ a.p < 65521

/-- Every pair of sums of the part lies in 0..65,520 (R56). -/
abbrev SumsOk (s : State) : Prop :=
  (∀ k : SlotNo, ∀ f, (s.slots.table.get k).file? = some f → AccOk f.acc)
    ∧ (∀ n : FrameNo, AccOk (s.frames.table.get n).body ∧ AccOk (s.frames.table.get n).index)

/-- A notice of kind `k` raises the line: every URGENT kind does, and a ROUTINE kind when its bit of the mask is set,
kinds 4..13 having bits 0..9 (R151, R158, R166, R178). -/
abbrev Raises (mask : BitVec 16) (k : NoticeKind) : Prop :=
  k = .storeFault ∨ k = .packHeld ∨ k = .framesExhausted ∨ (4 ≤ k.code ∧ mask.getLsbD (k.code - 4) = true)

/-- When R166 asserts the line: throughout PASSIVE; in ACTIVE while a pending notice, or the record of a ring position from
the consumer up to the producer, is of a kind that raises it, or while FAULTED; never in LOADING. -/
abbrev LineDue (s : State) : Prop :=
  s.loader.state = .passive
    ∨ (s.loader.state = .active
      ∧ ((∃ n ∈ s.notes.pending, Raises s.cmd.attnMask n.kind)
        ∨ (∃ i < (s.notes.producer - s.notes.consumer).toNat,
            ∃ x ∈ s.notes.records.get (s.notes.consumer + BitVec.ofNat 10 i).toFin, Raises s.cmd.attnMask x.kind)
        ∨ s.notes.faulted = true))

/-- The attention line is asserted exactly when R166 says so. -/
abbrev LineOk (s : State) : Prop := s.attention = true ↔ LineDue s

/-- At most 48 upstream writes and 16 own writes are in the store queue, and an own write is held only while all 16 own
entries are taken (R11, R13). -/
abbrev QueueOk (s : State) : Prop :=
  s.queue.upCount ≤ 48 ∧ s.queue.ownCount ≤ 16 ∧ (s.queue.held ≠ [] → s.queue.ownCount = 16)

/-- The period is 1..16 and the counter below it (R125). -/
abbrev PatternOk (s : State) : Prop := 1 ≤ s.copy.period ∧ s.copy.period ≤ 16 ∧ s.copy.counter < s.copy.period

/-- The pending queue holds at most 32 notices, and none but the one in writing stands ahead of an URGENT one while
ROUTINE (R159). -/
abbrev PendingOk (s : State) : Prop :=
  s.notes.pending.length ≤ 32
    ∧ ((s.notes.pending.drop s.notes.headLen).dropWhile Notice.urgent).all (fun n => !n.urgent) = true

/-- Each OPEN and each RESERVED frame is held by exactly one lane, the one its record names, and what a lane holds as OPEN
or RESERVED is so (R82, R88). -/
abbrev HeldOk (s : State) : Prop :=
  (∀ l n, (s.lanes.table.get l).openFrame = some n →
      (s.frames.table.get n).state = .opened ∧ (s.frames.table.get n).lane = l)
    ∧ (∀ l n, (s.lanes.table.get l).reserved = some n →
      (s.frames.table.get n).state = .reserved ∧ (s.frames.table.get n).lane = l)
    ∧ (∀ n, (s.frames.table.get n).state = .opened →
      (s.lanes.table.get (s.frames.table.get n).lane).openFrame = some n)
    ∧ (∀ n, (s.frames.table.get n).state = .reserved →
      (s.lanes.table.get (s.frames.table.get n).lane).reserved = some n)

/-- A slot entry is FILLING with its file in frame `n`. -/
def inFrame (n : FrameNo) (x : SlotEntry) : Bool := (placedFile x).any (fun y => y.2.frame == n)

/-- The in-flight count of a frame is the number of FILLING slots placed in it; it is zero in a frame that is FREE,
RESERVED, SEALING, SEALED or HELD, and not zero in one that is CLOSING (R108, R116). -/
abbrev InFlightOk (s : State) : Prop :=
  ∀ n : FrameNo,
    (s.frames.table.get n).inFlight = s.slots.table.toList.countP (inFrame n)
      ∧ ((s.frames.table.get n).state = .closing → (s.frames.table.get n).inFlight ≠ 0)
      ∧ ((s.frames.table.get n).inFlight ≠ 0 →
        (s.frames.table.get n).state = .opened ∨ (s.frames.table.get n).state = .closing)

/-- Frame `n` holds a pack: it is neither FREE nor RESERVED (R88). -/
abbrev HoldsPack (s : State) (n : FrameNo) : Prop :=
  (s.frames.table.get n).state ≠ .free ∧ (s.frames.table.get n).state ≠ .reserved

/-- The serials of the packs in frames are pairwise distinct and below the next serial (R97). -/
abbrev SerialsOk (s : State) : Prop :=
  (∀ n, HoldsPack s n → (s.frames.table.get n).serial < s.cmd.nextSerial)
    ∧ (∀ n m, n ≠ m → HoldsPack s n → HoldsPack s m → (s.frames.table.get n).serial ≠ (s.frames.table.get m).serial)

/-- The two queues of slots (R101): no slot stands twice in either; those in the frame-wait queue are WAITING and those in
the lookup queue are in LOOKUP; while a slot waits, no frame is FREE or RESERVED, unless the serials are exhausted; and
out of ACTIVE every slot is IDLE (R39, R169). -/
abbrev QueuesOk (s : State) : Prop :=
  s.frames.waitQ.Nodup ∧ s.coll.lookupQ.Nodup
    ∧ (∀ k ∈ s.frames.waitQ, (s.slots.table.get k).code = 2) ∧ (∀ k ∈ s.coll.lookupQ, (s.slots.table.get k).code = 1)
    ∧ (s.frames.waitQ ≠ [] → s.cmd.nextSerial < 2 ^ 48 →
      ∀ n, InUse s n → (s.frames.table.get n).state ≠ .free ∧ (s.frames.table.get n).state ≠ .reserved)
    ∧ (s.loader.state ≠ .active → ∀ k, s.slots.table.get k = .idle)

end Sys2Proof.Safety
end

