-- ==== Sys2Proof/Certificates/Slice0/Obligations.lean ====
section
/-! DEFINITION. The statements about the part. OBLIGATIONS.json says of each what it rests on. -/

open Sys2Proof Sys2Proof.Machine Sys2Proof.Safety

/-! ### The step and the commands as a whole -/

/-- A step takes the command at the front of the queue and carries it out with the queue's rest. The queue is the
model's (log 1). -/
def Obligations.StepTakesTheFrontCommand : Prop :=
  ∀ (c : Instr) (rest : List Instr) (s : State),
    step { s with pending := c :: rest } = exec c { s with pending := rest }

/-- No command changes the commands that wait (the queue is the model's, log 1); no command is refused by the model;
and every command but an answer of the store is carried out in every state: what the spec refuses is a next state too.
An answer of the store to nothing outstanding faults, the model's choice (log 6, 7). -/
def Obligations.CommandsAreCarriedOutAndKeepTheQueue : Prop :=
  ∀ (c : Instr) (s : State),
    (∀ t, exec c s = .next t → t.pending = s.pending)
      ∧ (∀ x, exec c s ≠ .refused x) ∧ (isStoreAnswer c = false → ∃ t, exec c s = .next t)

/-! ### Resets, the profile and the tick -/

/-- Power-on reset brings every piece of the part's state to its power-on value, whatever it was, samples the straps
and begins the read of the profile they name. That no window holds an address before a profile is loaded is the
model's choice (log 12), and so is counting the 1,024 clearing writes of the ring as unfinished (log 21). The other
values that a profile gives, which are not there yet, have no clause here. -/
def Obligations.PowerOnResetClearsThePart : Prop :=
  ∀ (straps : Fin 4) (s : State), ∃ t, exec (.powerOnReset straps) s = .next t
    ∧ t.loader = { state := .loading, strap := straps } ∧ t.configOut = [{ addr := straps.val * 1024, len := 1024 }]
    ∧ (∀ w ∈ t.decoder.all, w.size = 0)
    ∧ t.queue = { sent := [], unsent := [], held := [], reads := [], probes := [] }
    ∧ (∀ r, t.port.awaiting.get r = none) ∧ t.port.linkReset = false
    ∧ (∀ k, t.slots.table.get k = .idle) ∧ t.coll.lookupQ = [] ∧ t.frames.waitQ = []
    ∧ t.coll.entries = [] ∧ t.coll.search = none
    ∧ (∀ n, t.frames.table.get n = Frame.free)
    ∧ (∀ l, t.lanes.table.get l
        = { binding := if l = 0 then .mixed else .unbound, openFrame := none, reserved := none, lastPlace := 0 })
    ∧ t.lanes.tick = 0 ∧ t.copy.counter = 0
    ∧ t.cmd.frozen = false ∧ t.cmd.nextSerial = 0 ∧ t.cmd.bridgeTime = 0 ∧ t.cmd.rewrites = 0
    ∧ t.notes.pending = [] ∧ t.notes.writing = .none ∧ t.notes.producer = 0 ∧ t.notes.consumer = 0
    ∧ t.notes.lap = false ∧ (∀ p, t.notes.records.get p = none) ∧ t.notes.lost = 0 ∧ t.notes.faulted = false
    ∧ (∀ r, t.notes.tallies.get r = 0 ∧ t.notes.strayOut.get r = false)
    ∧ t.notes.toClear = 1024 ∧ t.notes.keptClears = []
    ∧ t.attention = false ∧ t.linkOut = [] ∧ t.storeOut = []

/-- Out of the configuration memory the part takes the 1,024 bytes of the profile its strap sample names, and no
others. If their check word matches and no check fails, the part enters ACTIVE: every block takes its values of the
profile, the description record and the 1,024 clearing writes are made, and RESET_DONE is posted. -/
def Obligations.ProfileThatPassesEntersActive : Prop :=
  ∀ (memory : List Byte) (s : State), s.loader.state = .loading → memory.length = 4096 →
    let d := (memory.drop (s.loader.strap.val * 1024)).take 1024
    (digestOf (d.take 1020)).toNat = field d 1020 4 → (parseProfile d).check = none →
    ∃ t, exec (.profileReadDone memory) s = .next t
      ∧ t.loader = { state := .active, strap := s.loader.strap }
      ∧ t.decoder.control = { base := field d 0 6, size := 131072, store := field d 16 5, readOnly := false }
      ∧ t.decoder.slot = { base := field d 24 6, size := 8589934592, store := 0, readOnly := false }
      ∧ t.decoder.pack.base = field d 48 6 ∧ t.decoder.pack.store = field d 64 5 ∧ t.decoder.pack.readOnly = false
      ∧ (∃ k, t.decoder.pack.size = 2 ^ k ∧ field d 170 2 * 2 ^ field d 168 1 ≤ 2 ^ k
          ∧ ∀ j < k, 2 ^ j < field d 170 2 * 2 ^ field d 168 1)
      ∧ (∀ k : Fin 4, t.decoder.pass.get k
          = { base := field d (72 + k.val * 24) 6, size := field d (80 + k.val * 24) 8,
              store := field d (88 + k.val * 24) 5, readOnly := bitAt d (78 + k.val * 24) 0 })
      ∧ t.decoder.openPassage = bitAt d 169 0
      ∧ t.frames.exp = field d 168 1 ∧ t.frames.nF = field d 170 2 ∧ t.frames.floor = field d 174 1
      ∧ t.frames.straggler = field d 176 2 ∧ t.frames.preamble = (d.drop 200).take 8 ∧ t.lanes.hold = field d 172 2
      ∧ t.copy.period = min (max (field d 178 1) 1) 16 ∧ t.copy.counter = 0
      ∧ (∀ p : PoolNo, t.copy.masks.get p = BitVec.ofNat 16 (field d (180 + 2 * p.val) 2))
      ∧ t.coll.extBase = field d 188 5 / 16 * 16 ∧ t.coll.extCount = min (field d 196 4) 65536
      ∧ (∀ k : ClassNo, let c := t.coll.classes.get k
          let a := 216 + k.val * 16
          (c.ownLane = true ↔ field d a 1 = 1)
            ∧ c.params.copies = min (max (field d (a + 1) 1) 1) 4
            ∧ c.params.files = min (max ((field d (a + 4) 2 + 63) / 64 * 64) 64) 4096
            ∧ c.params.target
                = min (max (field d (a + 2) 2) 16) ((2 ^ field d 168 1 - (512 + c.params.files * 64)) / 1048576)
            ∧ c.params.align = field d (a + 6) 2
            ∧ c.params.quiet = field d (a + 8) 2 ∧ c.params.age = field d (a + 10) 2)
      ∧ t.cmd = { s.cmd with attnMask := BitVec.ofNat 16 (field d 208 2 % 1024), rewrites := s.cmd.rewrites + 1 }
      ∧ t.slots = s.slots ∧ t.coll.entries = s.coll.entries ∧ t.frames.table = s.frames.table
      ∧ t.lanes.table = s.lanes.table ∧ t.port = s.port
      ∧ Described s t ∧ (∀ p : RingPos, Made t (clearingWrite t.decoder.control.store p))
      ∧ Posted s t [.resetDone false s.loader.strap.val]

/-- The ways into PASSIVE: the memory reports an error; the tick that brings the count to 4 finds the read unfinished;
the check word does not match; a check of the profile fails. The passive record is made at store address 0, the line
is asserted, and no other state changes but the counts of that tick. That the timeout falls inside the tick, and is
also a step of its own, which asks for a count of 4 in LOADING that no run reaches, is log 10; the detail of a check
that fails in several items is free (log 18). -/
def Obligations.FailedProfileEntersPassive : Prop :=
  ∀ (s : State), s.loader.state = .loading →
    let record (f : ProfileFailure) (check digest : Nat) : OwnWrite :=
      { kind := .passiveRecord, addr := 0,
        data := passiveRecordBytes s.loader.strap.val f.code f.detail1 f.detail2 check digest }
    let passive (t : State) (f : ProfileFailure) (check digest : Nat) : Prop :=
      t.loader = { state := .passive, strap := s.loader.strap } ∧ t.attention = true ∧ Made t (record f check digest)
        ∧ KeepsNotices s t ∧ t.decoder = s.decoder ∧ t.port = s.port
    let enters (c : Instr) (f : ProfileFailure) (check digest : Nat) : Prop :=
      ∃ t, exec c s = .next t ∧ passive t f check digest ∧ KeepsPacking s t ∧ t.cmd = s.cmd
    enters .profileReadError { code := 1, detail1 := 1, detail2 := 0 } 0 0
      ∧ (4 ≤ (s.lanes.tick + 1).toNat → ∃ t, exec .tick s = .next t
          ∧ passive t { code := 1, detail1 := 2, detail2 := 0 } 0 0
          ∧ t.lanes = { s.lanes with tick := s.lanes.tick + 1 }
          ∧ t.cmd = { s.cmd with bridgeTime := s.cmd.bridgeTime + 1 }
          ∧ t.slots = s.slots ∧ t.coll = s.coll ∧ t.frames = s.frames ∧ t.copy = s.copy)
      ∧ (4 ≤ s.lanes.tick.toNat → enters .profileReadTimeout { code := 1, detail1 := 2, detail2 := 0 } 0 0)
      ∧ (∀ memory : List Byte, memory.length = 4096 →
        let d := (memory.drop (s.loader.strap.val * 1024)).take 1024
        let check := field d 1020 4
        let digest := (digestOf (d.take 1020)).toNat
        (digest ≠ check → enters (.profileReadDone memory) { code := 1, detail1 := 3, detail2 := digest } check digest)
          ∧ (digest = check → ∀ f, (parseProfile d).check = some f →
            enters (.profileReadDone memory) f check digest))

/-- At every tick the tick count and the bridge time rise by one, modulo 2^48, in every start-up state; the rest of
the command unit is kept; and while LOADING the tick that brings the count to 4 puts the part in PASSIVE. That both
counts go on in PASSIVE, and that the timeout falls inside the tick, is the model's reading (log 10, 27). -/
def Obligations.TickRaisesBothCounts : Prop :=
  ∀ s : State, ∃ t, exec .tick s = .next t
    ∧ t.lanes.tick = s.lanes.tick + 1
    ∧ t.cmd = { s.cmd with bridgeTime := s.cmd.bridgeTime + 1 }
    ∧ t.coll = s.coll ∧ t.port = s.port ∧ t.decoder = s.decoder
    ∧ t.loader = { state := if s.loader.state = .loading ∧ 4 ≤ (s.lanes.tick + 1).toNat then .passive
                            else s.loader.state, strap := s.loader.strap }

/-- A tick acts on exactly the frames whose timers have expired: an OPEN frame at its age limit closes AGE; one past
its quiet time, and not at its age limit, closes QUIET; a CLOSING frame past the straggler time is FORCED; every other
frame is as it was. That one tick does all its expiries is log 10; that a quiet time of 1 expires at the tick after a
placement is log 35. -/
def Obligations.TickActsOnTheFramesThatAreDue : Prop :=
  ∀ s : State, s.loader.state = .active → ∃ t, exec .tick s = .next t
    ∧ ∀ n : FrameNo, InUse s n →
      let f := s.frames.table.get n
      let now := s.lanes.tick + 1
      let quiet := f.state = .opened ∧ (if f.params.quiet = 0 then 900 else f.params.quiet) ≤ (now - f.lastPlace).toNat
      let age := f.state = .opened ∧ 60 * (if f.params.age = 0 then 1440 else f.params.age) ≤ (now - f.openTick).toNat
      let straggler := f.state = .closing
        ∧ (if s.frames.straggler = 0 then 120 else s.frames.straggler) ≤ (now - f.closeTick).toNat
      (age → (t.frames.table.get n).reason = some .age
          ∧ (t.frames.table.get n).state = if f.inFlight = 0 then .sealing else .closing)
        ∧ (quiet ∧ ¬age → (t.frames.table.get n).reason = some .quiet
          ∧ (t.frames.table.get n).state = if f.inFlight = 0 then .sealing else .closing)
        ∧ (straggler → (t.frames.table.get n).forced = true ∧ (t.frames.table.get n).reason = f.reason)
        ∧ (¬quiet → ¬age → ¬straggler → t.frames.table.get n = f)

/-- The expiry of the quiet timer of an OPEN frame closes it QUIET, and that of its age timer closes it AGE; when both
have expired the frame closes AGE. Its lane holds no OPEN frame afterwards; slots, collections and other frames are
kept. The expiry as a step of its own is log 10; that a quiet time of 1 expires at the tick after a placement is log
35. -/
def Obligations.ExpiredTimersCloseTheOpenFrame : Prop :=
  ∀ (s : State) (n : FrameNo) (l : LaneNo), s.loader.state = .active → HoldsOpen s l n →
    let f := s.frames.table.get n
    let quiet := (if f.params.quiet = 0 then 900 else f.params.quiet) ≤ (s.lanes.tick - f.lastPlace).toNat
    let age := 60 * (if f.params.age = 0 then 1440 else f.params.age) ≤ (s.lanes.tick - f.openTick).toNat
    let closes (c : Instr) (reason : SealReason) : Prop :=
      ∃ t, exec c s = .next t ∧ ClosedFor s t n reason ∧ KeepsGeometry s t
        ∧ t.lanes.table.get l = { s.lanes.table.get l with openFrame := none }
        ∧ (∀ m : LaneNo, m ≠ l → t.lanes.table.get m = s.lanes.table.get m)
        ∧ t.slots = s.slots ∧ t.coll = s.coll ∧ t.cmd = s.cmd ∧ KeepsNotices s t ∧ KeepsPath s t
    (quiet → ¬age → closes (.quietExpiry n) .quiet) ∧ (age → closes (.ageExpiry n) .age)

/-- The expiry of the straggler timer of a CLOSING frame sets FORCED and ends every file still FILLING in the frame
with end reason FORCED, in ascending slot number: its index entry and final status word are made, and its sums and its
entry's bytes are folded into the frame's. The frame then goes SEALING under the reason it had and its header is made;
every other slot and frame is as it was. The expiry as a step of its own is log 10. -/
def Obligations.StragglerExpiryForcesTheFiles : Prop :=
  ∀ (s : State) (n : FrameNo), s.loader.state = .active →
    (s.frames.table.get n).state = .closing →
    (if s.frames.straggler = 0 then 120 else s.frames.straggler)
      ≤ (s.lanes.tick - (s.frames.table.get n).closeTick).toNat →
    (s.frames.table.get n).inFlight = s.slots.table.toList.countP (inFrame n) →
    let fr := s.frames.table.get n
    let ended : List (SlotNo × File × Placement) := (List.finRange 512).filterMap (fun k =>
      ((placedFile (s.slots.table.get k)).filter (fun y => y.2.frame == n)).map (fun y => (k, y)))
    let bytes (x : SlotNo × File × Placement) : List Byte :=
      indexEntryBytes x.2.1 x.1 x.2.2 .forced (x.2.1.endReport .forced) s.cmd.bridgeTime
    let folds (x : SlotNo × File × Placement) : Bool :=
      (x.2.1.endReport .forced).digestState != .void && (x.2.1.endReport .forced).digestState != .absent
    ∃ t, exec (.stragglerExpiry n) s = .next t
      ∧ (∀ k : SlotNo, t.slots.table.get k
          = if inFrame n (s.slots.table.get k) then .idle else s.slots.table.get k)
      ∧ t.frames.table.get n = sealingRecord s.copy { fr with
          forced := true, inFlight := 0,
          body := ended.foldl (fun a x => if folds x then
            { s := (a.s + x.2.1.acc.s) % 65521,
              p := (a.p + x.2.1.acc.p + x.2.2.offset % 65521 * x.2.1.acc.s % 65521) % 65521 } else a) fr.body,
          index := ended.foldl (fun a x => a.addBytes (x.2.2.entry * 64) (bytes x)) fr.index }
      ∧ (∀ x ∈ ended,
          Made t { kind := .indexEntry n x.2.2.entry fr.serial,
                   addr := s.decoder.pack.store + n.val * 2 ^ s.frames.exp + 512 + x.2.2.entry * 64, data := bytes x }
          ∧ Made t (s.statusWrite x.1 0 .ended x.2.1.lastReq (x.2.1.endReport .forced).state.code
              (some { frame := n, entry := x.2.2.entry, serial := fr.serial }) x.2.1.acc.digest))
      ∧ Made t (t.sealHeaderWrite n (t.frames.table.get n))
      ∧ t.copy = s.copy.advance ∧ OtherFrames s t n ∧ t.coll = s.coll ∧ t.lanes = s.lanes ∧ t.cmd = s.cmd
      ∧ KeepsNotices s t

/-- A link reset in ACTIVE: requests awaiting are discarded; every slot is IDLE, both queues empty, and each slot's
status word made, and each placed file's index entry (its serial where HeldOk and InFlightOk hold); the collection
table keeps its PINNED entries alone, unbound, and the search is abandoned; no lane holds a frame and lanes 1..31 are
unbound; the description record is made again and RESET_DONE posted, with FRAMES_AVAILABLE if slots waited. Where
HeldOk and InFlightOk hold, an OPEN frame goes SEALING with RESET, a CLOSING one with the reason it had, a RESERVED
one FREE; SEALING, SEALED and HELD frames are kept, and FREE ones where QueuesOk holds too. Sent writes stay sent, and
those unsent or held stay in their order, ahead of the new ones. In LOADING and PASSIVE the port discards the requests
awaiting and nothing else happens (R169, R176). That one command carries the whole link reset, in a free order of its
blocks, is log 9 and 11; that RESET_DONE carries the profile number 0 is read by inference, log 19. -/
def Obligations.LinkResetEndsFilesAndBindings : Prop :=
  ∀ s : State,
    (s.loader.state ≠ .active → s.port.linkReset = false → exec .linkReset s = .next { s with
      port := { awaiting := Vector.replicate 16 none, linkReset := false }
      queue := { s.queue with reads := s.queue.reads.map (fun x => { x with live := false }) }
      linkOut := [], storeOut := [], configOut := [] })
    ∧ (AtWork s → ∃ t, exec .linkReset s = .next t
    ∧ (∀ r, t.port.awaiting.get r = none) ∧ t.port.linkReset = false
    ∧ (∀ k, t.slots.table.get k = .idle) ∧ t.coll.lookupQ = [] ∧ t.frames.waitQ = []
    ∧ t.coll.entries = (s.coll.entries.filter (fun x => x.pinned)).map (fun x => { x with lane := none })
    ∧ t.coll.search = none
    ∧ (∀ l, t.lanes.table.get l
        = { binding := if l = 0 then .mixed else .unbound, openFrame := none, reserved := none, lastPlace := 0 })
    ∧ t.cmd = { s.cmd with rewrites := s.cmd.rewrites + 1 } ∧ Described s t
    ∧ t.coll.classes = s.coll.classes ∧ t.coll.extBase = s.coll.extBase ∧ t.coll.extCount = s.coll.extCount
    ∧ t.copy.period = s.copy.period ∧ t.copy.masks = s.copy.masks ∧ KeepsGeometry s t
    ∧ t.loader = s.loader ∧ t.decoder = s.decoder
    ∧ t.queue.sent = s.queue.sent
    ∧ (∃ made : List OwnWrite, writeLine t.queue = writeLine s.queue ++ made.map (fun w => w.entry none))
    ∧ t.queue.reads = s.queue.reads.map (fun x => { x with live := false })
    ∧ t.queue.probes = s.queue.probes.map (fun x => { x with live := false })
    ∧ (HeldOk s → InFlightOk s → ∀ n : FrameNo,
      let f := s.frames.table.get n
      let g := t.frames.table.get n
      let seals (reason : Option SealReason) : Prop :=
        g.state = .sealing ∧ g.reason = reason ∧ g.inFlight = 0 ∧ g.serial = f.serial ∧ g.count = f.count
          ∧ g.fill = f.fill ∧ g.forced = f.forced ∧ g.fault = f.fault ∧ Made t (t.sealHeaderWrite n g)
      (f.state = .opened → seals (some .reset)) ∧ (f.state = .closing → seals f.reason)
        ∧ (f.state = .reserved → g = Frame.free)
        ∧ (f.state = .sealing ∨ f.state = .sealed ∨ f.state = .held → g = f)
        ∧ (QueuesOk s → f.state = .free → g = f))
    ∧ (HeldOk s → InFlightOk s → ∀ (k : SlotNo) (f : File) (p : Placement), placedFile (s.slots.table.get k) = some (f, p) →
      let report := f.endReport .reset
      let serial := (s.frames.table.get p.frame).serial
      Made t { kind := .indexEntry p.frame p.entry serial,
               addr := s.decoder.pack.store + p.frame.val * 2 ^ s.frames.exp + 512 + p.entry * 64,
               data := indexEntryBytes f k p .reset report s.cmd.bridgeTime }
        ∧ Made t (s.statusWrite k 0 .ended f.lastReq report.state.code
            (some { frame := p.frame, entry := p.entry, serial := serial }) f.acc.digest))
    ∧ (∀ (k : SlotNo) (f : File), queuedFile (s.slots.table.get k) = some f →
      Made t (s.statusWrite k 0 .ended f.lastReq 0 none 0))
    ∧ (s.frames.waitQ = [] → s.notes.pending.length < 32 → Posted s t [.resetDone true 0])
    ∧ (s.frames.waitQ ≠ [] → s.notes.pending.length < 31 → ∃ free, Posted s t [.resetDone true 0, .framesAvailable free]
        ∨ Posted s t [.framesAvailable free, .resetDone true 0])
    ∧ t.notes.tallies = s.notes.tallies ∧ t.notes.consumer = s.notes.consumer
    ∧ t.notes.producer = s.notes.producer ∧ t.notes.records = s.notes.records)

/-! ### The transaction path -/

/-- Where a write goes by its window. In pass window k it goes to pass store base + (U - pass upstream base), answered
ACCEPT; in a read-only one it is dropped, answered ACCEPT, and PROTECT is posted. In the pack window it goes to the
frame it names if that frame is FREE; to any other frame, or to the tail of the window, it is dropped with PROTECT. At
an unclaimed address, with open passage clear or at or above 2^40, it is dropped and counted as a stray; with it set,
a write below 2^40 passes with identity translation, unless it meets the pack or control region, where it is dropped
with PROTECT. Nothing else of the part changes. -/
def Obligations.WindowWrites : Prop :=
  ∀ (s : State) (r : Requester) (addr : UpAddr) (d : List Byte), Hears s r → WellSized addr d.length →
    let passes (origin : UpOrigin) (a : Nat) : Prop :=
      RoomFor s 0 → ∃ t, exec (.upstreamWrite r addr d) s = .next t
        ∧ Took s t r { origin := .upstream r origin addr, countsFor := some r, addr := a, data := d,
                       cancelled := false } []
        ∧ KeepsPath s t ∧ KeepsPacking s t ∧ KeepsNotices s t ∧ t.cmd = s.cmd
    let protects (cause : ProtectCause) : Prop :=
      ∃ t, exec (.upstreamWrite r addr d) s = .next t ∧ Dropped s t r ∧ Posted s t [.protect cause r addr]
        ∧ KeepsPath s t ∧ KeepsPacking s t ∧ t.cmd = s.cmd
    (∀ (k : Fin 4) (a : Nat) (ro : Bool), s.decoder.place addr.toNat = .pass k a ro →
        a = (s.decoder.pass.get k).store + (addr.toNat - (s.decoder.pass.get k).base)
          ∧ (ro = false → passes (.pass k) a) ∧ (ro = true → protects .readOnly))
      ∧ (∀ off : Nat, s.decoder.place addr.toNat = .pack off →
        (s.frames.nF * 2 ^ s.frames.exp ≤ off → protects .tail)
          ∧ (∀ (n : FrameNo) (o : Nat), InUse s n → off = n.val * 2 ^ s.frames.exp + o → o < 2 ^ s.frames.exp →
            ((s.frames.table.get n).state ≠ .free → protects (.notFree n))
              ∧ ((s.frames.table.get n).state = .free → passes (.pack n) (s.decoder.pack.store + off))))
      ∧ (s.decoder.place addr.toNat = .unclaimed →
        (s.decoder.openPassage = false ∨ 2 ^ 40 < addr.toNat + d.length →
            ∃ t, exec (.upstreamWrite r addr d) s = .next t ∧ Dropped s t r ∧ Strayed s t r addr
              ∧ KeepsPath s t ∧ KeepsPacking s t ∧ t.cmd = s.cmd)
          ∧ (s.decoder.openPassage = true → addr.toNat + d.length ≤ 2 ^ 40 →
            (s.meetsRegions addr.toNat d.length = true → protects .region)
              ∧ (s.meetsRegions addr.toNat d.length = false → passes .unclaimed addr.toNat)))

/-- A malformed write is dropped and answered ACCEPT, and MALFORMED is posted; a malformed read is answered NO_TARGET.
Neither changes a window's state. -/
def Obligations.MalformedRequests : Prop :=
  ∀ (s : State) (r : Requester) (addr : UpAddr), Hears s r →
    (∀ d : List Byte, ¬WellSized addr d.length → ∃ t, exec (.upstreamWrite r addr d) s = .next t ∧ Dropped s t r
        ∧ Posted s t [.malformed .request r addr] ∧ KeepsPath s t ∧ KeepsPacking s t ∧ t.cmd = s.cmd)
      ∧ (∀ n : Nat, ¬WellSized addr n → AnswersOnly s (.upstreamRead r addr n) r .noTarget)

/-- A write answered RETRY leaves no trace but the answer: while LOADING, while a link reset is handled, when it is
the owner's data write to a slot that has not been placed, and when there is no room for it, an upstream entry or the
own entries of the writes made with it: any write that would pass to memory, in the control, pass and pack windows, by
open passage, as slot data and in PASSIVE; with one own write, a command or confirm cell and a slot record; with two,
a CLOSE or ABANDON of a FILLING file, an OPEN that opens a pack, and a data write that completes its file. -/
def Obligations.RetryLeavesNoTrace : Prop :=
  ∀ (s : State) (c : Instr) (r : Requester) (addr : UpAddr) (d : List Byte),
    asWrite c = some (r, addr, d) → s.port.awaiting.get r = none →
    let record (k : SlotNo) (code : Nat) : Prop :=
      AtControl s r addr d (0x1000 + k.val * 64) ∧ (d.length = 64 ∨ (d.length = 8 ∧ code ≠ 1)) ∧ field d 0 1 = code
    let passes : Prop :=
      (s.loader.state = .passive ∧ WellSized addr d.length ∧ addr.toNat + d.length ≤ 2 ^ 40)
        ∨ (∃ off, AtControl s r addr d off)
        ∨ (Hears s r ∧ WellSized addr d.length
          ∧ ((∃ k a, s.decoder.place addr.toNat = .pass k a false)
            ∨ (∃ (n : FrameNo) (o : Nat), InUse s n ∧ o < 2 ^ s.frames.exp ∧ (s.frames.table.get n).state = .free
              ∧ s.decoder.place addr.toNat = .pack (n.val * 2 ^ s.frames.exp + o))
            ∨ (s.decoder.place addr.toNat = .unclaimed ∧ s.decoder.openPassage = true
              ∧ addr.toNat + d.length ≤ 2 ^ 40 ∧ s.meetsRegions addr.toNat d.length = false)))
        ∨ (∃ k o, SlotDue s r addr d.length k o ∧ ∃ f p, placedFile (s.slots.table.get k) = some (f, p) ∧ f.owner = r
          ∧ o < f.intent.length)
    let withOne : Prop :=
      (∃ cell : CellNo, (AtControl s r addr d (0x0400 + cell.val * 64) ∨ AtControl s r addr d (0x0800 + cell.val * 64))
          ∧ d.length = 64 ∧ field d 0 1 ≠ 0)
        ∨ (∃ k, record k 1 ∨ record k 2 ∨ record k 3)
    let withTwo : Prop :=
      (∃ k, (record k 2 ∨ record k 3) ∧ ∃ f p, placedFile (s.slots.table.get k) = some (f, p) ∧ f.owner = r)
        ∨ (∃ k, record k 1 ∧ s.slots.table.get k = .idle ∧ LengthOk d ∧ s.frames.waitQ = [] ∧ s.cmd.nextSerial < 2 ^ 48
          ∧ ∃ c l g, RoutedTo s d c l ∧ (s.lanes.table.get l).openFrame = none ∧ FrameFor s l g)
        ∨ (∃ k o, SlotDue s r addr d.length k o ∧ ∃ f p, placedFile (s.slots.table.get k) = some (f, p) ∧ f.owner = r
          ∧ o < f.intent.length ∧ f.intent.closeRequired = false
          ∧ (let n := min d.length (f.intent.length - o)
             (f.recordWrite o (d.take n) (d.length - n)).covered = true))
    (s.loader.state = .loading
      ∨ s.port.linkReset = true
      ∨ (∃ k o, SlotDue s r addr d.length k o ∧ ∃ f, queuedFile (s.slots.table.get k) = some f ∧ f.owner = r)
      ∨ (passes ∧ NoRoom s 0) ∨ (withOne ∧ NoRoom s 1) ∨ (withTwo ∧ NoRoom s 2)) →
    AnswersOnly s c r .retry

/-- A read in the control window, a pass window, a frame of the pack window that is not SEALING, or by open passage
below 2^40 and clear of the pack and control regions, has the store address its window gives; it is sent at once when
no unsent write counts as its requester's, and else it is held, and either way the requester awaits its answer. A read
of a SEALING frame is answered RETRY; one in the tail of the pack window, and any other unclaimed read, NO_TARGET.
When a held read may go is read by inference (log 20). -/
def Obligations.WindowReads : Prop :=
  ∀ (s : State) (r : Requester) (addr : UpAddr) (n : Nat), Hears s r → WellSized addr n →
    let reads (a : Nat) : Prop := ∃ t, exec (.upstreamRead r addr n) s = .next t
      ∧ ReadTaken s t { requester := r, addr := a, len := n, pad := 0 }
    (∀ off, s.decoder.place addr.toNat = .control off → reads (s.decoder.control.store + off))
      ∧ (∀ k a ro, s.decoder.place addr.toNat = .pass k a ro → reads a)
      ∧ (∀ off, s.decoder.place addr.toNat = .pack off →
        (s.frames.nF * 2 ^ s.frames.exp ≤ off → AnswersOnly s (.upstreamRead r addr n) r .noTarget)
          ∧ (∀ (m : FrameNo) (o : Nat), InUse s m → off = m.val * 2 ^ s.frames.exp + o → o < 2 ^ s.frames.exp →
            ((s.frames.table.get m).state = .sealing → AnswersOnly s (.upstreamRead r addr n) r .retry)
              ∧ ((s.frames.table.get m).state ≠ .sealing → reads (s.decoder.pack.store + off))))
      ∧ (s.decoder.place addr.toNat = .unclaimed →
        let clear : Prop := s.decoder.openPassage = true ∧ addr.toNat + n ≤ 2 ^ 40
          ∧ s.meetsRegions addr.toNat n = false
        (clear → reads addr.toNat) ∧ (¬clear → AnswersOnly s (.upstreamRead r addr n) r .noTarget))

/-- A slot-window read by the slot's state: IDLE, NO_TARGET; LOOKUP or WAITING, RETRY; FILLING and wholly at or beyond
the declared length, zero bytes at once; else the in-file part is read from the file's place in its pack, with zero
bytes owed for the rest. -/
def Obligations.SlotReads : Prop :=
  ∀ (s : State) (r : Requester) (addr : UpAddr) (n : Nat) (k : SlotNo) (o : Nat), SlotDue s r addr n k o →
    let now (a : Answer) : Prop := AnswersOnly s (.slotRead r addr n) r a
    (s.slots.table.get k = .idle → now .noTarget)
      ∧ (∀ f, s.slots.table.get k = .lookup f → now .retry)
      ∧ (∀ f c l, s.slots.table.get k = .waiting f c l → now .retry)
      ∧ (∀ f c l p, s.slots.table.get k = .filling f c l p → f.intent.length ≤ o →
          now (.data (List.replicate n 0)))
      ∧ (∀ f c l p, s.slots.table.get k = .filling f c l p → o < f.intent.length →
          let len := min (o + n) f.intent.length - o
          ∃ t, exec (.slotRead r addr n) s = .next t
            ∧ ReadTaken s t
              { requester := r, len := len, pad := n - len,
                addr := s.decoder.pack.store + p.frame.val * 2 ^ s.frames.exp
                  + (512 + (s.frames.table.get p.frame).params.files * 64) + p.offset + o })

/-- In PASSIVE a request that is not malformed and lies below 2^40 passes with identity translation, whatever its
address: a write is taken by room alone and answered ACCEPT, or RETRY with no trace; a read is sent or held behind its
requester's writes. Any other write is dropped and any other read answered NO_TARGET. No block acts and nothing is
posted; the store port sends the oldest unsent write as in ACTIVE. When a held read may go is log 20. -/
def Obligations.PassiveIsAPassThrough : Prop :=
  ∀ (s : State) (c : Instr) (r : Requester) (addr : UpAddr),
    s.loader.state = .passive → s.port.linkReset = false → s.port.awaiting.get r = none →
    (∀ d : List Byte, asWrite c = some (r, addr, d) →
        let fits : Prop := WellSized addr d.length ∧ addr.toNat + d.length ≤ 2 ^ 40
        let keeps (t : State) : Prop :=
          KeepsPath s t ∧ KeepsPacking s t ∧ t.cmd = s.cmd ∧ KeepsNotices s t
        (fits → s.queue.upCount < 48 → ∃ t, exec c s = .next t ∧ keeps t
            ∧ Took s t r { origin := .upstream r .passive addr, countsFor := some r, addr := addr.toNat, data := d,
                           cancelled := false } [])
          ∧ (fits → 48 ≤ s.queue.upCount → AnswersOnly s c r .retry)
          ∧ (¬fits → ∃ t, exec c s = .next t ∧ keeps t ∧ Dropped s t r))
      ∧ (∀ n : Nat, c = .upstreamRead r addr n ∨ c = .slotRead r addr n →
        let fits : Prop := WellSized addr n ∧ addr.toNat + n ≤ 2 ^ 40
        (fits → ∃ t, exec c s = .next t ∧ ReadTaken s t { requester := r, addr := addr.toNat, len := n, pad := 0 })
          ∧ (¬fits → AnswersOnly s c r .noTarget))
      ∧ (∀ (x : Entry) (rest : List Entry), s.queue.unsent = x :: rest → x.cancelled = false →
        ∃ t, exec .writeSend s = .next t ∧ t.queue.sent = s.queue.sent ++ [x]
          ∧ (∃ later : List OwnWrite, t.queue.unsent = rest ++ later.map (fun w => w.entry none))
          ∧ (∃ more, t.storeOut = .write x.addr x.data :: more) ∧ t.loader = s.loader ∧ KeepsPacking s t
          ∧ KeepsNotices s t ∧ t.cmd = s.cmd)

/-! ### Slots: OPEN, CLOSE, ABANDON and data -/

/-- An OPEN for an IDLE slot whose class is decided at once, in a lane whose OPEN pack has room for the file and stays
below its target and its count, with no slot waiting for a frame: the slot goes FILLING, owned by the writer, with an
empty account and zero sums; its entry number is the pack's file count and its offset the pack's fill, which grow; the
status word reads PLACED. -/
def Obligations.OpenIsPlacedInTheOpenPack : Prop :=
  ∀ (s : State) (r : Requester) (addr : UpAddr) (d : List Byte) (k : SlotNo) (c : ClassNo) (l : LaneNo) (n : FrameNo),
    RecordDue s r addr d k 1 1 → s.slots.table.get k = .idle → LengthOk d → RoutedTo s d c l →
    HoldsOpen s l n → s.frames.waitQ = [] →
    Fits s (s.frames.table.get n) (field d 12 4) → StaysOpen (s.frames.table.get n) (field d 12 4) →
    let f := s.frames.table.get n
    ∃ t, exec (.openFile r addr d) s = .next t
      ∧ (∀ j : SlotNo, t.slots.table.get j
          = if j = k then .filling (openedFile r d) c l { frame := n, entry := f.count, offset := f.fill }
            else s.slots.table.get j)
      ∧ t.frames.table.get n = withFile f (field d 12 4) s.lanes.tick ∧ OtherFrames s t n
      ∧ t.lanes.table.get l = { s.lanes.table.get l with lastPlace := placedAt s l }
      ∧ (∀ m : LaneNo, m ≠ l → t.lanes.table.get m = s.lanes.table.get m)
      ∧ Took s t r (upstreamEntry r .control addr (s.decoder.control.store + (0x1000 + k.val * 64)) d)
          [s.statusWrite k 3 .placed (BitVec.ofNat 8 (field d 1 1)) 0
            (some { frame := n, entry := f.count, serial := f.serial }) 0]
      ∧ t.coll = { s.coll with entries := touched (BitVec.ofNat 32 (field d 8 4)) s.coll.entries }
      ∧ KeepsPath s t ∧ KeepsNotices s t ∧ t.cmd = s.cmd ∧ t.copy = s.copy

/-- An OPEN for an IDLE slot whose class is decided at once, in a lane with no OPEN pack, with no slot waiting: the
lane's RESERVED frame, or with none the lowest-numbered FREE frame, opens as a new pack. The pack takes the next
serial, which rises by one, and the values of the lane's class; the file is placed at entry 0 and offset 0, with its
intent, an empty account and zero sums; directly behind what was queued stand the record write, the header and the
status word PLACED; unsent writes to a frame that leaves FREE are cancelled; reservations follow. -/
def Obligations.OpenTakesANewPack : Prop :=
  ∀ (s : State) (r : Requester) (addr : UpAddr) (d : List Byte) (k : SlotNo) (c : ClassNo) (l : LaneNo) (g : FrameNo),
    RecordDue s r addr d k 1 2 → s.slots.table.get k = .idle → LengthOk d → RoutedTo s d c l →
    (s.lanes.table.get l).openFrame = none → FrameFor s l g → s.frames.waitQ = [] → s.cmd.nextSerial < 2 ^ 48 →
    let b := (s.lanes.table.get l).binding
    StaysOpen (packRecord s l b) (field d 12 4) →
    ∃ t, exec (.openFile r addr d) s = .next t
      ∧ OpensPack s t r addr d k c l b g ∧ Reserves s t
      ∧ (∀ m : FrameNo, m ≠ g → (s.frames.table.get m).state ≠ .free →
          t.frames.table.get m = s.frames.table.get m)
      ∧ (∀ m : LaneNo, m ≠ l → (t.lanes.table.get m).binding = (s.lanes.table.get m).binding
          ∧ (t.lanes.table.get m).openFrame = (s.lanes.table.get m).openFrame
          ∧ (t.lanes.table.get m).lastPlace = (s.lanes.table.get m).lastPlace)
      ∧ t.coll = { s.coll with entries := touched (BitVec.ofNat 32 (field d 8 4)) s.coll.entries }
      ∧ KeepsNotices s t ∧ t.copy = s.copy

/-- An OPEN in a lane with an OPEN pack, with no slot waiting. A file that fits and brings the pack to its target
closes it TARGET; one that fits, leaves it below its target and brings it to its count closes it COUNT; either way the
file is placed first, and its lane holds no OPEN frame. A file that does not fit closes the pack FULL, and it is
placed as the first of a new pack in the lane's RESERVED frame or the lowest-numbered FREE one. -/
def Obligations.PacksCloseByTargetCountAndFull : Prop :=
  ∀ (s : State) (r : Requester) (addr : UpAddr) (d : List Byte) (k : SlotNo) (c : ClassNo) (l : LaneNo) (n : FrameNo),
    s.slots.table.get k = .idle → LengthOk d → RoutedTo s d c l → HoldsOpen s l n → s.frames.waitQ = [] →
    let f := s.frames.table.get n
    let length := field d 12 4
    (RecordDue s r addr d k 1 1 → Fits s f length → ¬StaysOpen f length →
      ∃ t, exec (.openFile r addr d) s = .next t
        ∧ t.frames.table.get n = { withFile f length s.lanes.tick with
            state := .closing, closeTick := s.lanes.tick,
            reason := some (if f.params.target * 1048576 ≤ f.fill + allocated length f.params.align then .target
              else .count) }
        ∧ OtherFrames s t n
        ∧ t.lanes.table.get l = { s.lanes.table.get l with openFrame := none, lastPlace := placedAt s l }
        ∧ (∀ m : LaneNo, m ≠ l → t.lanes.table.get m = s.lanes.table.get m)
        ∧ (∀ j : SlotNo, t.slots.table.get j
            = if j = k then .filling (openedFile r d) c l { frame := n, entry := f.count, offset := f.fill }
              else s.slots.table.get j)
        ∧ Took s t r (upstreamEntry r .control addr (s.decoder.control.store + (0x1000 + k.val * 64)) d)
            [s.statusWrite k 3 .placed (BitVec.ofNat 8 (field d 1 1)) 0
              (some { frame := n, entry := f.count, serial := f.serial }) 0]
        ∧ KeepsPath s t ∧ KeepsNotices s t ∧ t.cmd = s.cmd ∧ t.copy = s.copy)
      ∧ (∀ g, RecordDue s r addr d k 1 2 → ¬Fits s f length → FrameFor s l g → s.cmd.nextSerial < 2 ^ 48 →
        let b := (s.lanes.table.get l).binding
        StaysOpen (packRecord s l b) length →
        ∃ t, exec (.openFile r addr d) s = .next t
          ∧ ClosedRecord s t n .full ∧ OpensPack s t r addr d k c l b g
          ∧ (∀ m : FrameNo, m ≠ g → m ≠ n → (s.frames.table.get m).state ≠ .free →
              t.frames.table.get m = s.frames.table.get m)
          ∧ KeepsNotices s t)

/-- An OPEN whose class has OWN_LANE, of a tag whose entry has no lane. With no slot waiting: the lowest-numbered
unbound lane of 1..31 is bound to the collection, and the file opens its first pack. With none unbound, the lane
placed in longest ago, the lowest-numbered of equals, is evicted once the lane hold time has passed: its OPEN frame
closes EVICTED, the old entry loses its lane, LANE_EVICTED is posted, and the lane is bound to the new collection,
which keeps the lane's RESERVED frame for its first pack. Before that time no lane is bound or evicted, and the file
is placed in lane 0, here in its OPEN pack. With slots waiting and no frame FREE nor RESERVED in that lane, the
eviction is the same: the slots that wait for the lane wait for lane 0 afterwards, in their places, and the file's
slot joins the tail of the queue for the lane. -/
def Obligations.LanesAreBoundAndEvicted : Prop :=
  ∀ (s : State) (r : Requester) (addr : UpAddr) (d : List Byte) (k : SlotNo) (c : ClassNo) (x : CollEntry),
    s.slots.table.get k = .idle → LengthOk d → field d 22 1 = c.val → (s.coll.classes.get c).ownLane = true →
    x.tag = BitVec.ofNat 32 (field d 8 4) → s.coll.entries.find? (fun y => y.tag == x.tag) = some x → x.lane = none →
    let b : Binding := .collection x.tag c
    let age (m : LaneNo) : Nat := (s.lanes.tick - (s.lanes.table.get m).lastPlace).toNat
    let oldest (l : LaneNo) : Prop :=
      (∀ m : LaneNo, m ≠ 0 → (s.lanes.table.get m).binding ≠ .unbound ∧ age m ≤ age l ∧ (m < l → age m < age l))
        ∧ s.lanes.hold ≤ age l
    let others := s.coll.entries.filter (fun y => y.tag != x.tag)
    let otherLanes (t : State) (l : LaneNo) : Prop := ∀ m : LaneNo, m ≠ l →
      (t.lanes.table.get m).binding = (s.lanes.table.get m).binding
        ∧ (t.lanes.table.get m).openFrame = (s.lanes.table.get m).openFrame
        ∧ (t.lanes.table.get m).lastPlace = (s.lanes.table.get m).lastPlace
    (∀ (l : LaneNo) (g : FrameNo), s.frames.waitQ = [] → RecordDue s r addr d k 1 2 → s.cmd.nextSerial < 2 ^ 48 → l ≠ 0 →
        StaysOpen (packRecord s l b) (field d 12 4) → FrameFor s l g →
        (((s.lanes.table.get l).binding = .unbound ∧ (s.lanes.table.get l).openFrame = none
            ∧ (∀ m : LaneNo, m ≠ 0 → m < l → (s.lanes.table.get m).binding ≠ .unbound)) →
          ∃ t, exec (.openFile r addr d) s = .next t ∧ OpensPack s t r addr d k c l b g
            ∧ t.coll = { s.coll with entries := { x with lane := some l } :: others }
            ∧ otherLanes t l ∧ KeepsNotices s t ∧ t.copy = s.copy)
        ∧ (∀ (n : FrameNo) (old : Tag) (oldClass : ClassNo),
          oldest l → (s.lanes.table.get l).binding = .collection old oldClass → HoldsOpen s l n →
          ∃ t, exec (.openFile r addr d) s = .next t ∧ OpensPack s t r addr d k c l b g
            ∧ ClosedRecord s t n .evicted
            ∧ (let unbound := others.map (fun y => if y.tag = old then { y with lane := none } else y)
               t.coll = { s.coll with entries := { x with lane := some l } :: unbound })
            ∧ otherLanes t l ∧ Posted s t [.laneEvicted l old x.tag]))
      ∧ (∀ n : FrameNo, s.frames.waitQ = [] → RecordDue s r addr d k 1 1 →
        (∀ m : LaneNo, m ≠ 0 → (s.lanes.table.get m).binding ≠ .unbound ∧ age m < s.lanes.hold) →
        HoldsOpen s 0 n → Fits s (s.frames.table.get n) (field d 12 4) →
        StaysOpen (s.frames.table.get n) (field d 12 4) →
        ∃ t, exec (.openFile r addr d) s = .next t ∧ t.lanes = s.lanes
          ∧ t.slots.table.get k = .filling (openedFile r d) c 0
              { frame := n, entry := (s.frames.table.get n).count, offset := (s.frames.table.get n).fill }
          ∧ t.frames.table.get n = withFile (s.frames.table.get n) (field d 12 4) s.lanes.tick
          ∧ OtherFrames s t n ∧ t.coll = { s.coll with entries := x :: others } ∧ t.copy = s.copy
          ∧ KeepsNotices s t)
      ∧ (∀ (l : LaneNo) (old : Tag) (oldClass : ClassNo), RecordDue s r addr d k 1 1 → s.frames.waitQ ≠ [] → l ≠ 0 →
        oldest l → (s.lanes.table.get l).binding = .collection old oldClass →
        (∀ n, (s.lanes.table.get l).openFrame = some n → HoldsOpen s l n) → (s.lanes.table.get l).reserved = none →
        (∀ m, InUse s m → (s.frames.table.get m).state ≠ .free) →
        ∃ t, exec (.openFile r addr d) s = .next t
          ∧ (∀ j : SlotNo, t.slots.table.get j = if j = k then .waiting (openedFile r d) c l else movedWaiter s l j)
          ∧ t.frames.waitQ = s.frames.waitQ ++ [k] ∧ ClosesLane s t l .evicted
          ∧ (∀ j : FrameNo, (s.lanes.table.get l).openFrame ≠ some j → t.frames.table.get j = s.frames.table.get j)
          ∧ t.lanes.table.get l = { s.lanes.table.get l with binding := b, openFrame := none, lastPlace := s.lanes.tick }
          ∧ (∀ m : LaneNo, m ≠ l → t.lanes.table.get m = s.lanes.table.get m)
          ∧ t.coll = { s.coll with entries := s.coll.entries.map (fun y =>
              if y.tag = x.tag then { y with lane := some l } else if y.tag = old then { y with lane := none } else y) }
          ∧ Took s t r (upstreamEntry r .control addr (s.decoder.control.store + (0x1000 + k.val * 64)) d)
              [s.statusWrite k 2 .queuedFrame (BitVec.ofNat 8 (field d 1 1)) 0 none 0]
          ∧ Posted s t [.laneEvicted l old x.tag] ∧ t.cmd = s.cmd ∧ KeepsPath s t)

/-- An OPEN with no class hint, of a tag the table does not hold. With an external table the slot goes to LOOKUP at
the tail of the lookup queue and its status word reads QUEUED_LOOKUP; an idle engine begins its search at once, over
the whole table as it then stands, with a probe of the middle entry. With a table count of 0 class 0 is given, and
cached CACHED and not listed at the most recent place, in the stead of the least recent CACHED entry without a lane if
128 are held, and not at all if there is none; the file is here placed in lane 0's OPEN pack. An engine that goes idle
serves the next head of its queue: it begins the search for it. Every probe's address lies in the store here: the
fault beyond it is log 14 and 17. -/
def Obligations.LookupsAreQueuedCachedAndServed : Prop :=
  ∀ s : State,
    let begins (j : SlotNo) (tag : Tag) : Search :=
      { slot := j, claimed := true, tag := tag, base := s.coll.extBase, count := s.coll.extCount, lo := 0,
        hi := s.coll.extCount - 1 }
    let first := s.coll.extBase + (s.coll.extCount - 1) / 2 * 16
    let inStore := first + 16 ≤ 2 ^ 40
    (∀ (r : Requester) (addr : UpAddr) (d : List Byte) (k : SlotNo), RecordDue s r addr d k 1 1 →
      s.slots.table.get k = .idle → LengthOk d → 8 ≤ field d 22 1 →
      s.coll.entries.find? (fun x => x.tag == BitVec.ofNat 32 (field d 8 4)) = none →
      let tag : Tag := BitVec.ofNat 32 (field d 8 4)
      let x := upstreamEntry r .control addr (s.decoder.control.store + (0x1000 + k.val * 64)) d
      let waits (t : State) : Prop :=
        (∀ j : SlotNo, t.slots.table.get j = if j = k then .lookup (openedFile r d) else s.slots.table.get j)
          ∧ t.frames = s.frames ∧ t.lanes = s.lanes ∧ t.copy = s.copy ∧ t.cmd = s.cmd ∧ KeepsPath s t
          ∧ KeepsNotices s t
      let report := s.statusWrite k 1 .queuedLookup (BitVec.ofNat 8 (field d 1 1)) 0 none 0
      (s.coll.extCount ≠ 0 →
          (∀ q, s.coll.search = some q → ∃ t, exec (.openFile r addr d) s = .next t ∧ waits t
              ∧ Took s t r x [report] ∧ t.coll = { s.coll with lookupQ := s.coll.lookupQ ++ [k] })
            ∧ (s.coll.search = none → s.coll.lookupQ = [] → inStore →
              ∃ t, exec (.openFile r addr d) s = .next t ∧ waits t ∧ Queued s t r x [report]
                ∧ t.coll = { s.coll with lookupQ := [k], search := some (begins k tag) }
                ∧ t.queue.probes = s.queue.probes ++ [{ addr := first, live := true }]
                ∧ t.storeOut = [.read first 16]))
        ∧ (∀ n, s.coll.extCount = 0 → (s.coll.classes.get 0).ownLane = false → s.frames.waitQ = [] →
          HoldsOpen s 0 n → Fits s (s.frames.table.get n) (field d 12 4) →
          StaysOpen (s.frames.table.get n) (field d 12 4) →
          let f := s.frames.table.get n
          let new : CollEntry := { tag := tag, cls := 0, pinned := false, listed := false, lane := none }
          let spare (y : CollEntry) : Bool := !y.pinned && y.lane.isNone
          let places (entries : List CollEntry) : Prop := ∃ t, exec (.openFile r addr d) s = .next t
            ∧ t.slots.table.get k = .filling (openedFile r d) 0 0 { frame := n, entry := f.count, offset := f.fill }
            ∧ t.coll = { s.coll with entries := entries }
            ∧ Took s t r x [s.statusWrite k 3 .placed (BitVec.ofNat 8 (field d 1 1)) 0
                (some { frame := n, entry := f.count, serial := f.serial }) 0]
          (s.coll.entries.length < 128 → places (new :: s.coll.entries))
            ∧ (∀ front y back, 128 ≤ s.coll.entries.length → s.coll.entries = front ++ y :: back → spare y = true →
              back.any spare = false → places (new :: (front ++ back)))
            ∧ (128 ≤ s.coll.entries.length → s.coll.entries.any spare = false → places s.coll.entries)))
      ∧ (∀ (y : OutProbe) (rest : List OutProbe) (q : Search) (j : SlotNo) (more : List SlotNo) (f : File),
        s.queue.probes = y :: rest → y.live = true → s.coll.search = some q → q.claimed = false →
        s.coll.lookupQ = j :: more → s.slots.table.get j = .lookup f →
        s.coll.entries.find? (fun x => x.tag == f.intent.tag) = none → s.coll.extCount ≠ 0 → inStore →
        ∃ t, exec (.probeAnswer .fault) s = .next t ∧ t.slots = s.slots
          ∧ t.coll = { s.coll with search := some (begins j f.intent.tag) }
          ∧ t.queue.probes = rest ++ [{ addr := first, live := true }] ∧ t.storeOut = [.read first 16])

/-- An OPEN for an IDLE slot that finds no frame: no OPEN frame in its lane, no frame FREE and no lane with a RESERVED
frame. The slot waits, its status word reads QUEUED_FRAME, and FRAMES_EXHAUSTED is posted with the slot, its lane and
the number of frames SEALED or HELD. -/
def Obligations.OpenWithoutAFrameWaits : Prop :=
  ∀ (s : State) (r : Requester) (addr : UpAddr) (d : List Byte) (k : SlotNo) (c : ClassNo),
    RecordDue s r addr d k 1 1 → s.slots.table.get k = .idle →
    1 ≤ field d 12 4 → field d 12 4 ≤ 16777216 → field d 22 1 = c.val → (s.coll.classes.get c).ownLane = false →
    (s.lanes.table.get 0).openFrame = none → (∀ l, (s.lanes.table.get l).reserved = none) →
    s.frames.waitQ = [] → s.lowestFree = none →
    ∃ t file, exec (.openFile r addr d) s = .next t
      ∧ file.owner = r ∧ file.lastReq = BitVec.ofNat 8 (field d 1 1)
      ∧ (∀ j : SlotNo, t.slots.table.get j = if j = k then .waiting file c 0 else s.slots.table.get j)
      ∧ t.frames = { s.frames with waitQ := [k] } ∧ t.lanes = s.lanes ∧ t.cmd = s.cmd ∧ t.copy = s.copy
      ∧ Took s t r (upstreamEntry r .control addr (s.decoder.control.store + (0x1000 + k.val * 64)) d)
          [s.statusWrite k 2 .queuedFrame (BitVec.ofNat 8 (field d 1 1)) 0 none 0]
      ∧ Posted s t [.framesExhausted 0 k (s.countFrames .sealed + s.countFrames .held)] ∧ KeepsPath s t

/-- An OPEN for a slot that is not IDLE is refused, BUSY to the slot's owner and FOREIGN to any other; the slot entry
is left as it was, and the status word carries the slot's state, the request number of the refused write, and in
FILLING the frame, entry number and pack serial of the file. An OPEN for an IDLE slot is refused BAD_LENGTH for a
declared length of 0 and TOO_LARGE above 16,777,216. A CLOSE or ABANDON is refused NOT_OPEN for an IDLE slot and
FOREIGN for another's file. No state of the packing machinery changes. -/
def Obligations.RefusedRecordsChangeNothing : Prop :=
  ∀ (s : State) (r : Requester) (addr : UpAddr) (d : List Byte) (k : SlotNo),
    let refused (cmd : Instr) (state : Nat) (result : SlotResult) (place : Option StatusPlace) : Prop :=
      ∃ t, exec cmd s = .next t
        ∧ Took s t r (upstreamEntry r .control addr (s.decoder.control.store + (0x1000 + k.val * 64)) d)
            [s.statusWrite k state result (BitVec.ofNat 8 (field d 1 1)) 0 place 0]
        ∧ KeepsPath s t ∧ KeepsPacking s t ∧ KeepsNotices s t ∧ t.cmd = s.cmd
    let result (f : File) : SlotResult := if f.owner = r then .busy else .foreign
    let placed (p : Placement) : Option StatusPlace :=
      some { frame := p.frame, entry := p.entry, serial := (s.frames.table.get p.frame).serial }
    (RecordDue s r addr d k 1 1 →
        (∀ f, s.slots.table.get k = .lookup f → refused (.openFile r addr d) 1 (result f) none)
          ∧ (∀ f c l, s.slots.table.get k = .waiting f c l → refused (.openFile r addr d) 2 (result f) none)
          ∧ (∀ f c l p, s.slots.table.get k = .filling f c l p → refused (.openFile r addr d) 3 (result f) (placed p))
          ∧ (s.slots.table.get k = .idle → field d 12 4 = 0 → refused (.openFile r addr d) 0 .badLength none)
          ∧ (s.slots.table.get k = .idle → 16777216 < field d 12 4 → refused (.openFile r addr d) 0 .tooLarge none))
      ∧ (∀ code cmd,
        (code = 2 ∧ cmd = .closeFile r addr d ∨ code = 3 ∧ cmd = .abandonFile r addr d) → RecordDue s r addr d k code 1 →
          (s.slots.table.get k = .idle → refused cmd 0 .notOpen none)
            ∧ (∀ f, f.owner ≠ r → s.slots.table.get k = .lookup f → refused cmd 1 .foreign none)
            ∧ (∀ f c l, f.owner ≠ r → s.slots.table.get k = .waiting f c l → refused cmd 2 .foreign none)
            ∧ (∀ f c l p, f.owner ≠ r → s.slots.table.get k = .filling f c l p → refused cmd 3 .foreign (placed p)))

/-- A CLOSE or ABANDON by the owner of a FILLING file ends it: the slot goes IDLE; the index entry and the final
status word, with the write's request number, enter the queue behind the write; the frame's in-flight count falls by
one, the file is folded into the body sums unless its digest state is VOID or NONE, and the entry's 64 bytes into the
index sums; a CLOSING frame whose last file this was goes SEALING. One by the owner of a slot in LOOKUP or WAITING
ends the intent: the slot goes IDLE, leaves its queue wherever it stands in it, and the status word reads IDLE, ENDED
with every other field zero; no frame is touched, and a search in progress for the slot goes on unclaimed. -/
def Obligations.CloseAndAbandonEndTheFile : Prop :=
  ∀ (s : State) (r : Requester) (addr : UpAddr) (d : List Byte) (k : SlotNo) (f : File) (code : Nat) (reason : EndReason)
    (cmd : Instr),
    (code = 2 ∧ reason = .closed ∧ cmd = .closeFile r addr d
      ∨ code = 3 ∧ reason = .abandoned ∧ cmd = .abandonFile r addr d) →
    f.owner = r →
    let x := upstreamEntry r .control addr (s.decoder.control.store + (0x1000 + k.val * 64)) d
    let req : Byte := BitVec.ofNat 8 (field d 1 1)
    let idle (t : State) : Prop :=
      (∀ j : SlotNo, t.slots.table.get j = if j = k then .idle else s.slots.table.get j) ∧ KeepsPath s t ∧ t.cmd = s.cmd
    let ends (t : State) : Prop := idle t ∧ Took s t r x [s.statusWrite k 0 .ended req 0 none 0] ∧ t.copy = s.copy
    (∀ (c : ClassNo) (l : LaneNo) (p : Placement),
        RecordDue s r addr d k code 2 → s.slots.table.get k = .filling f c l p →
        let fr := s.frames.table.get p.frame
        let g : File := { f with lastReq := req }
        let report := g.endReport reason
        let bytes := indexEntryBytes g k p reason report s.cmd.bridgeTime
        let body := if report.digestState = .void ∨ report.digestState = .absent then fr.body
          else { s := (fr.body.s + g.acc.s) % 65521,
                 p := (fr.body.p + g.acc.p + p.offset % 65521 * g.acc.s % 65521) % 65521 }
        let ended : Frame :=
          { fr with body := body, index := fr.index.addBytes (p.entry * 64) bytes, inFlight := fr.inFlight - 1 }
        ∃ t, exec cmd s = .next t ∧ idle t ∧ OtherFrames s t p.frame
          ∧ (¬(fr.state = .closing ∧ fr.inFlight - 1 = 0) → t.frames.table.get p.frame = ended ∧ t.copy = s.copy)
          ∧ (fr.state = .closing → fr.inFlight - 1 = 0 → t.frames.table.get p.frame = sealingRecord s.copy ended
              ∧ t.copy = s.copy.advance ∧ Made t (t.sealHeaderWrite p.frame (t.frames.table.get p.frame)))
          ∧ Took s t r x
              [{ kind := .indexEntry p.frame p.entry fr.serial,
                 addr := s.decoder.pack.store + p.frame.val * 2 ^ s.frames.exp + 512 + p.entry * 64, data := bytes },
               s.statusWrite k 0 .ended req report.state.code
                 (some { frame := p.frame, entry := p.entry, serial := fr.serial })
                 (if report.digestState = .absent then 0 else g.acc.digest)]
          ∧ KeepsNotices s t ∧ t.coll = s.coll ∧ t.lanes = s.lanes)
      ∧ (RecordDue s r addr d k code 1 →
        (s.slots.table.get k = .lookup f → ∃ t, exec cmd s = .next t ∧ ends t ∧ KeepsNotices s t
            ∧ t.frames = s.frames ∧ t.lanes = s.lanes
            ∧ t.coll = { s.coll with
                lookupQ := s.coll.lookupQ.filter (fun j => j != k)
                search := s.coll.search.map (fun q => if q.slot = k then { q with claimed := false } else q) })
          ∧ (∀ c l, s.slots.table.get k = .waiting f c l → s.frames.waitQ.filter (fun j => j != k) ≠ [] →
              ∃ t, exec cmd s = .next t ∧ ends t ∧ KeepsNotices s t ∧ t.coll = s.coll ∧ t.lanes = s.lanes
                ∧ t.frames = { s.frames with waitQ := s.frames.waitQ.filter (fun j => j != k) })
          ∧ (∀ c l, s.slots.table.get k = .waiting f c l → s.frames.waitQ = [k] → s.lowestFree = none →
              ∃ t, exec cmd s = .next t ∧ ends t ∧ t.coll = s.coll ∧ t.lanes = s.lanes
                ∧ t.frames = { s.frames with waitQ := [] } ∧ Posted s t [.framesAvailable (s.countFrames .free)]))

/-- What the end of a file reports (R52, R53): an abandoned file ends ABANDONED with digest state NONE; any other ends
COMPLETE, INCOMPLETE or UNVERIFIED by its coverage, full, not full or SCATTERED, with the digest state VOID once a
rewrite has voided it and else VALID, PARTIAL or UNCHECKED; the missing bytes are the declared length less the covered
amount, unknown when SCATTERED. A SCATTERED file's coverage is never full. -/
def Obligations.EndReportsFollowCoverage : Prop :=
  ∀ (f : File) (reason : EndReason),
    let r := f.endReport reason
    (reason = .abandoned → r.state = .abandoned ∧ r.digestState = .absent)
      ∧ (reason ≠ .abandoned → f.account.digestVoid = true → r.digestState = .void)
      ∧ (f.account.coverage = .scattered → f.covered = false ∧ r.missing = none
          ∧ (reason ≠ .abandoned → r.state = .unverified
            ∧ (f.account.digestVoid = false → r.digestState = .unchecked)))
      ∧ (∀ l, f.account.coverage = .tracked l →
          r.missing = some (f.intent.length - (l.map (fun x => x.stop - x.start)).sum)
          ∧ (reason ≠ .abandoned → l = [{ start := 0, stop := f.intent.length }] → r.state = .complete
            ∧ (f.account.digestVoid = false → r.digestState = .valid))
          ∧ (reason ≠ .abandoned → l ≠ [{ start := 0, stop := f.intent.length }] → r.state = .incomplete
            ∧ (f.account.digestVoid = false → r.digestState = .partly)))

/-- Control-window writes that no block acts on pass to memory. A write that touches the command cells, the confirm
cells, the consumer-index word or the slot records, from wherever it begins, and is not exactly one whole cell, the
8-byte word, or the 64 or the first 8 bytes of one record, posts MALFORMED; so does a slot record whose code is none
of OPEN, CLOSE and ABANDON, or an OPEN in the 8-byte form. A cell or record with code 0, a confirm cell with request
number 0, and a write that touches none of these areas post nothing. -/
def Obligations.ControlWritesNoBlockActsOn : Prop :=
  ∀ (s : State) (r : Requester) (addr : UpAddr) (d : List Byte) (off : Nat), RoomFor s 0 → AtControl s r addr d off →
    let passes (l : List NoticeBody) : Prop :=
      ∃ t, exec (.upstreamWrite r addr d) s = .next t
        ∧ Took s t r (upstreamEntry r .control addr (s.decoder.control.store + off) d) [] ∧ Posted s t l
        ∧ KeepsPath s t ∧ KeepsPacking s t ∧ t.cmd = s.cmd
    let touches (a n : Nat) : Prop := off < a + n ∧ a < off + d.length
    let areas : Prop := touches 0x0400 0x0400 ∨ touches 0x0800 0x0400 ∨ touches 0x0C00 8 ∨ touches 0x1000 0x8000
    let cell : Prop := 0x0400 ≤ off ∧ off < 0x0C00 ∧ off % 64 = 0 ∧ d.length = 64
    let record : Prop := 0x1000 ≤ off ∧ off < 0x9000 ∧ off % 64 = 0 ∧ (d.length = 64 ∨ d.length = 8)
    (areas → ¬cell → ¬(off = 0x0C00 ∧ d.length = 8) → ¬record → passes [.malformed .form r addr])
      ∧ (¬areas → passes [])
      ∧ (cell → field d 0 1 = 0 → passes [])
      ∧ (record → field d 0 1 = 0 → passes [])
      ∧ (record → (3 < field d 0 1 ∨ (field d 0 1 = 1 ∧ d.length = 8)) → passes [.malformed .code r addr])

/-- A data write by the owner of a FILLING file with at least one byte below the declared length, which does not
complete a file that ends by coverage: its first bytes, up to the declared length, go to the file's place in its pack;
they are recorded in the account and the sums, and the bytes beyond are counted as overrun; nothing else of the part
changes. One wholly at or beyond the declared length is dropped, answered ACCEPT, and counted as overrun alone. One
for an IDLE slot, or from a requester that is not the owner, is dropped and counted as a stray. -/
def Obligations.DataWritesFollowTheSlot : Prop :=
  ∀ (s : State) (r : Requester) (addr : UpAddr) (d : List Byte) (k : SlotNo) (o : Nat),
    SlotDue s r addr d.length k o →
    let keeps (t : State) : Prop := KeepsPath s t ∧ KeepsNotices s t ∧ t.cmd = s.cmd ∧ t.coll = s.coll
      ∧ t.lanes = s.lanes ∧ t.frames = s.frames ∧ t.copy = s.copy
    (∀ f c l p, s.slots.table.get k = .filling f c l p → f.owner = r → o < f.intent.length → RoomFor s 0 →
        let n := min d.length (f.intent.length - o)
        let g := f.recordWrite o (d.take n) (d.length - n)
        (g.covered = false ∨ f.intent.closeRequired = true) →
        ∃ t, exec (.dataWrite r addr d) s = .next t
          ∧ (∀ j : SlotNo, t.slots.table.get j = if j = k then .filling g c l p else s.slots.table.get j)
          ∧ Took s t r
              { origin := .upstream r (.slotData k p.frame p.entry) addr, countsFor := some r,
                addr := s.decoder.pack.store + p.frame.val * 2 ^ s.frames.exp
                  + (512 + (s.frames.table.get p.frame).params.files * 64) + p.offset + o,
                data := d.take n, cancelled := false } []
          ∧ keeps t)
      ∧ (∀ f c l p, s.slots.table.get k = .filling f c l p → f.owner = r → f.intent.length ≤ o →
        ∃ t, exec (.dataWrite r addr d) s = .next t ∧ Dropped s t r
          ∧ (∀ j : SlotNo, t.slots.table.get j
              = if j = k then .filling { f with account := { f.account with
                    overrun := true, overrunCount := min (f.account.overrunCount + d.length) 4294967295 } } c l p
                else s.slots.table.get j)
          ∧ keeps t)
      ∧ ((s.slots.table.get k = .idle ∨ ∃ f, (s.slots.table.get k).file? = some f ∧ f.owner ≠ r) →
        ∃ t, exec (.dataWrite r addr d) s = .next t ∧ Dropped s t r ∧ Strayed s t r addr
          ∧ KeepsPath s t ∧ KeepsPacking s t ∧ t.cmd = s.cmd)

/-- What a data write of `n` in-file bytes at offset `o`, with `beyond` bytes of overrun, does to a file (R44 to R48,
R59): the overrun count rises, saturating; a write that shares an offset with what is covered voids the digest for
good; while it is not void the bytes are added to the sums with their weights; the range is merged into the extent
list, unless that would leave nine ranges, when the file becomes SCATTERED, for good. Merging a range into a list in
the fixed form gives a list in the fixed form, which covers exactly the offsets that the list or the range covered. -/
def Obligations.RecordingAWrite : Prop :=
  (∀ (f : File) (o : Nat) (bytes : List Byte) (beyond : Nat),
    let g := f.recordWrite o bytes beyond
    let x : Extent := { start := o, stop := o + bytes.length }
    g.intent = f.intent ∧ g.owner = f.owner ∧ g.lastReq = f.lastReq ∧ g.account.storeFault = f.account.storeFault
      ∧ g.account.overrunCount = (if beyond = 0 then f.account.overrunCount
          else min (f.account.overrunCount + beyond) 4294967295)
      ∧ g.account.overrun = (f.account.overrun || decide (0 < beyond))
      ∧ (f.account.coverage = .scattered → g.account.coverage = .scattered
          ∧ g.account.digestVoid = f.account.digestVoid)
      ∧ (∀ l, f.account.coverage = .tracked l →
          (g.account.digestVoid = true ↔ f.account.digestVoid = true
            ∨ ∃ y ∈ l, y.start < o + bytes.length ∧ o < y.stop)
          ∧ g.account.coverage
              = if (mergeExtent x l).length ≤ 8 then .tracked (mergeExtent x l) else .scattered)
      ∧ (g.account.digestVoid = true → g.acc = f.acc)
      ∧ (g.account.digestVoid = false → g.acc = f.acc.addBytes o bytes))
  ∧ (∀ (n : Nat) (l : List Extent) (x : Extent), orderedFrom n 0 l = true → x.start < x.stop → x.stop ≤ n →
    orderedFrom n 0 (mergeExtent x l) = true
      ∧ ∀ i, covers (mergeExtent x l) i ↔ covers l i ∨ (x.start ≤ i ∧ i < x.stop))

/-- A data write that completes the coverage of a file whose CLOSE_REQUIRED is clear ends the file COVERED in the same
event: the slot goes IDLE, and the index entry and the final status word enter the queue directly behind the write. -/
def Obligations.FullCoverageEndsTheFile : Prop :=
  ∀ (s : State) (r : Requester) (addr : UpAddr) (d : List Byte) (k : SlotNo) (o : Nat) (f : File) (c : ClassNo)
    (l : LaneNo) (p : Placement),
    SlotDue s r addr d.length k o → s.slots.table.get k = .filling f c l p → f.owner = r → o < f.intent.length →
    RoomFor s 2 →
    let n := min d.length (f.intent.length - o)
    let g := f.recordWrite o (d.take n) (d.length - n)
    let fr := s.frames.table.get p.frame
    let report := g.endReport .covered
    let bytes := indexEntryBytes g k p .covered report s.cmd.bridgeTime
    g.covered = true → f.intent.closeRequired = false →
    report.state = .complete ∧ ∃ t, exec (.dataWrite r addr d) s = .next t
      ∧ (∀ j : SlotNo, t.slots.table.get j = if j = k then .idle else s.slots.table.get j)
      ∧ (t.frames.table.get p.frame).inFlight = fr.inFlight - 1
      ∧ (t.frames.table.get p.frame).index = fr.index.addBytes (p.entry * 64) bytes
      ∧ (t.frames.table.get p.frame).state
          = (if fr.state = .closing ∧ fr.inFlight - 1 = 0 then .sealing else fr.state)
      ∧ OtherFrames s t p.frame
      ∧ Took s t r
          { origin := .upstream r (.slotData k p.frame p.entry) addr, countsFor := some r,
            addr := s.decoder.pack.store + p.frame.val * 2 ^ s.frames.exp + (512 + fr.params.files * 64) + p.offset + o,
            data := d.take n, cancelled := false }
          [{ kind := .indexEntry p.frame p.entry fr.serial,
             addr := s.decoder.pack.store + p.frame.val * 2 ^ s.frames.exp + 512 + p.entry * 64, data := bytes },
           s.statusWrite k 0 .ended f.lastReq 1
             (some { frame := p.frame, entry := p.entry, serial := fr.serial }) g.acc.digest]
      ∧ KeepsPath s t ∧ KeepsNotices s t ∧ t.cmd = s.cmd ∧ t.coll = s.coll ∧ t.lanes = s.lanes

/-! ### The twelve commands -/

/-- REGISTER of a tag with a class 0..7 whose effect reaches no lane: a tag the table holds with that class becomes
PINNED at the most recent place and keeps its lane; a tag it does not hold gets a new PINNED entry there, in the stead
of the least recent entry that is not PINNED if the table is full; with every entry PINNED the command is refused
TABLE_FULL, and with a class of 8..255 BAD_ARGUMENT, and nothing changes. UNREGISTER of a tag whose entry has no lane
removes the entry; of a tag the table does not hold it is refused NOT_FOUND and nothing changes. -/
def Obligations.RegisterPinsAndUnregisterRemoves : Prop :=
  ∀ (s : State) (r : Requester) (addr : UpAddr) (d : List Byte) (cell : CellNo), s.cmd.frozen = false →
    let tag : Tag := BitVec.ofNat 32 (field d 8 4)
    let old := s.coll.entries.find? (fun x => x.tag == tag)
    let others := s.coll.entries.filter (fun x => x.tag != tag)
    let gives (cmd : Instr) (status : CmdStatus) (result : Nat) (entries : List CollEntry) : Prop :=
      ∃ t, exec cmd s = .next t ∧ Commanded s t r addr d cell status (le 8 result)
        ∧ t.coll = { s.coll with entries := entries }
        ∧ t.slots = s.slots ∧ t.lanes = s.lanes ∧ t.frames = s.frames ∧ t.copy = s.copy ∧ t.cmd = s.cmd
        ∧ KeepsNotices s t
    let reg : Instr := .register r addr d
    let unreg : Instr := .unregister r addr d
    (CommandDue s r addr d cell 1 →
      (8 ≤ field d 12 1 → gives reg .badArgument 0 s.coll.entries)
      ∧ (∀ c : ClassNo, field d 12 1 = c.val →
        (∀ x, old = some x → (x.cls = c ∨ x.lane = none) →
          gives reg .done 0 ({ tag := tag, cls := c, pinned := true, listed := true, lane := x.lane } :: others))
        ∧ (old = none → s.coll.entries.length < 128 →
          gives reg .done 0 ({ tag := tag, cls := c, pinned := true, listed := true, lane := none } :: s.coll.entries))
        ∧ (old = none → 128 ≤ s.coll.entries.length → (∀ x ∈ s.coll.entries, x.pinned = true) →
          gives reg .tableFull 0 s.coll.entries)
        ∧ (∀ x, old = none → 128 ≤ s.coll.entries.length →
          s.coll.entries.reverse.find? (fun y => !y.pinned) = some x → x.lane = none →
          gives reg .done x.tag.toNat ({ tag := tag, cls := c, pinned := true, listed := true, lane := none }
            :: s.coll.entries.filter (fun y => y.tag != tag && y.tag != x.tag)))))
      ∧ (CommandDue s r addr d cell 2 →
        (old = none → gives unreg .notFound 0 s.coll.entries)
          ∧ (∀ x, old = some x → x.lane = none → gives unreg .done 0 others))

/-- UNREGISTER of a tag bound to a lane, and REGISTER of it with another class, unbind the lane: its OPEN frame, if it
holds one, closes with reason RECLASS, and the lane holds no frame, no tag, no class and no time afterwards. REGISTER
of a new tag into a full table, whose least recent entry that is not PINNED is bound to a lane, unbinds that lane with
reason EVICTED, posts LANE_EVICTED with the lane and the evicted tag, and pins the new entry in that entry's stead.
Slots that wait for the lane wait for lane 0 afterwards, in their places. A RESERVED frame of the lane, here with no
slot waiting, returns to FREE, and reservations follow. Both together, which exhausted serials allow alone, are log 34
and have no clause. -/
def Obligations.ReclassUnbindsTheLane : Prop :=
  ∀ (s : State) (r : Requester) (addr : UpAddr) (d : List Byte) (cell : CellNo) (x : CollEntry) (l : LaneNo),
    s.cmd.frozen = false → s.coll.entries.find? (fun y => y.tag == x.tag) = some x → x.lane = some l →
    (∃ c, (s.lanes.table.get l).binding = .collection x.tag c) →
    let tag : Tag := BitVec.ofNat 32 (field d 8 4)
    let cleared (t : State) : Prop :=
      t.lanes.table.get l = { binding := .unbound, openFrame := none, reserved := none, lastPlace := 0 }
    let does (unbinds : State → Nat → SealReason → Prop) : Prop :=
      (x.tag = tag → CommandDue s r addr d cell 2 → ∃ t, exec (.unregister r addr d) s = .next t
          ∧ unbinds t l.val .reclass ∧ KeepsNotices s t
          ∧ t.coll.entries = s.coll.entries.filter (fun y => y.tag != x.tag))
        ∧ (∀ c : ClassNo, x.tag = tag → CommandDue s r addr d cell 1 → field d 12 1 = c.val → x.cls ≠ c →
          ∃ t, exec (.register r addr d) s = .next t ∧ unbinds t 0 .reclass ∧ KeepsNotices s t
            ∧ t.coll.entries = { tag := x.tag, cls := c, pinned := true, listed := true, lane := none }
                :: s.coll.entries.filter (fun y => y.tag != x.tag))
        ∧ (∀ c : ClassNo, s.coll.entries.find? (fun y => y.tag == tag) = none → CommandDue s r addr d cell 1 →
          field d 12 1 = c.val → 128 ≤ s.coll.entries.length →
          s.coll.entries.reverse.find? (fun y => !y.pinned) = some x →
          ∃ t, exec (.register r addr d) s = .next t ∧ unbinds t x.tag.toNat .evicted
            ∧ Posted s t [.laneEvicted l x.tag 0]
            ∧ t.coll.entries = { tag := tag, cls := c, pinned := true, listed := true, lane := none }
                :: s.coll.entries.filter (fun y => y.tag != x.tag))
    ((∀ n, (s.lanes.table.get l).openFrame = some n → HoldsOpen s l n) → (s.lanes.table.get l).reserved = none →
        does (fun t result reason => Commanded s t r addr d cell .done (le 8 result) ∧ cleared t
          ∧ ClosesOnly s t l reason ∧ (∀ j : SlotNo, t.slots.table.get j = movedWaiter s l j)
          ∧ (∀ m : LaneNo, m ≠ l → t.lanes.table.get m = s.lanes.table.get m)
          ∧ t.cmd = s.cmd ∧ KeepsGeometry s t))
      ∧ (∀ m, (s.lanes.table.get l).reserved = some m → s.frames.waitQ = [] → HeldOk s →
        does (fun t result reason => DoneUnmarked s t r addr d cell (le 8 result) ∧ cleared t ∧ GivesUp s t l m reason))

/-- SET CLASS brings every field into its range and replaces the class: F to a multiple of 64 in 64..4,096, T into
16..floor(C / 1,048,576), K into 1..4, A to 512 for zero and 4,096 for anything else; Q and H as written; the
description record is written again. A class number of 8..255 is refused BAD_ARGUMENT. An OWN_LANE byte above 1 held
as set, with the mark of a changed value, is the model's reading (log 31). -/
def Obligations.SetClassClampsAndReplaces : Prop :=
  ∀ (s : State) (r : Requester) (addr : UpAddr) (d : List Byte) (cell : CellNo), CommandDue s r addr d cell 3 →
    s.cmd.frozen = false →
    (8 ≤ field d 8 1 → ∃ t, exec (.setClass r addr d) s = .next t
        ∧ Commanded s t r addr d cell .badArgument (le 8 0) ∧ KeepsPacking s t ∧ t.cmd = s.cmd ∧ KeepsNotices s t)
      ∧ (∀ k : ClassNo, field d 8 1 = k.val → ∃ t, exec (.setClass r addr d) s = .next t
        ∧ (let c := t.coll.classes.get k
           c.params.files = min (max ((field d 12 2 + 63) / 64 * 64) 64) 4096
            ∧ c.params.target
                = min (max (field d 10 2) 16) ((2 ^ s.frames.exp - (512 + c.params.files * 64)) / 1048576)
            ∧ c.params.copies = min (max (field d 20 1) 1) 4
            ∧ c.params.align = (if field d 14 2 = 0 then 512 else 4096)
            ∧ c.params.quiet = field d 16 2 ∧ c.params.age = field d 18 2 ∧ (c.ownLane = true ↔ field d 9 1 ≠ 0))
        ∧ (∀ j : ClassNo, j ≠ k → t.coll.classes.get j = s.coll.classes.get j)
        ∧ t.coll.entries = s.coll.entries ∧ t.coll.search = s.coll.search ∧ t.coll.lookupQ = s.coll.lookupQ
        ∧ (∃ mark, mark ≤ 1 ∧ Commanded s t r addr d cell .done (le 8 mark)
          ∧ (mark = 0 ↔ field d 9 1 ≤ 1 ∧ field d 10 2 = (t.coll.classes.get k).params.target
              ∧ field d 12 2 = (t.coll.classes.get k).params.files ∧ field d 14 2 = (t.coll.classes.get k).params.align
              ∧ field d 20 1 = (t.coll.classes.get k).params.copies))
        ∧ Described s t ∧ t.slots = s.slots ∧ t.lanes = s.lanes ∧ t.frames = s.frames ∧ t.copy = s.copy
        ∧ t.cmd = { s.cmd with rewrites := s.cmd.rewrites + 1 } ∧ KeepsNotices s t)

/-- SET PATTERN replaces the period, brought into 1..16, and the four masks, and sets the counter to 0; it is answered
DONE with the period as held. SET TABLE replaces the external table's base, with its low four bits zero, and its
count, limited to 65,536, and removes every CACHED entry that is not listed and has no lane; a search in progress goes
on as it began; it is answered DONE with the count as held. The description record is written again after either. -/
def Obligations.PatternAndTableAreReplaced : Prop :=
  ∀ (s : State) (r : Requester) (addr : UpAddr) (d : List Byte) (cell : CellNo), s.cmd.frozen = false →
    let rest (t : State) : Prop := t.slots = s.slots ∧ t.lanes = s.lanes ∧ t.frames = s.frames
      ∧ t.cmd = { s.cmd with rewrites := s.cmd.rewrites + 1 } ∧ Described s t ∧ KeepsNotices s t
    (CommandDue s r addr d cell 4 → ∃ t, exec (.setPattern r addr d) s = .next t
        ∧ t.copy.period = min (max (field d 8 1) 1) 16 ∧ t.copy.counter = 0
        ∧ (∀ p : PoolNo, t.copy.masks.get p = BitVec.ofNat 16 (field d (10 + 2 * p.val) 2))
        ∧ Commanded s t r addr d cell .done (le 8 (min (max (field d 8 1) 1) 16)) ∧ rest t ∧ t.coll = s.coll)
      ∧ (CommandDue s r addr d cell 5 → ∃ t, exec (.setTable r addr d) s = .next t
        ∧ t.coll = { s.coll with
            extBase := field d 8 5 / 16 * 16, extCount := min (field d 16 4) 65536
            entries := s.coll.entries.filter (fun x => !(!x.pinned && !x.listed && x.lane.isNone)) }
        ∧ Commanded s t r addr d cell .done (le 8 (min (field d 16 4) 65536)) ∧ rest t ∧ t.copy = s.copy)

/-- SET SERIAL with a value at or above the next serial makes it the next serial and is answered DONE with it; with a
value below it the command is refused BAD_ARGUMENT and the serial is kept. SET TIME replaces the bridge time with the
value written and is answered DONE with it, and SET ATTENTION replaces the attention mask, bits 10..15 held as zero,
writes the description record again, and the line is judged by the new mask at once; both whether or not the part is
frozen. -/
def Obligations.SerialTimeAndAttentionAreSet : Prop :=
  ∀ (s : State) (r : Requester) (addr : UpAddr) (d : List Byte) (cell : CellNo),
    (CommandDue s r addr d cell 6 → s.cmd.frozen = false → ∃ t, exec (.setSerial r addr d) s = .next t
        ∧ (s.cmd.nextSerial ≤ field d 8 6 → t.cmd = { s.cmd with nextSerial := field d 8 6 }
            ∧ Commanded s t r addr d cell .done (le 8 (field d 8 6)))
        ∧ (field d 8 6 < s.cmd.nextSerial → t.cmd = s.cmd ∧ Commanded s t r addr d cell .badArgument (le 8 0))
        ∧ KeepsPacking s t ∧ KeepsNotices s t)
      ∧ (CommandDue s r addr d cell 7 → ∃ t, exec (.setTime r addr d) s = .next t
        ∧ t.cmd = { s.cmd with bridgeTime := BitVec.ofNat 48 (field d 8 6) }
        ∧ Commanded s t r addr d cell .done (le 8 (field d 8 6)) ∧ KeepsPacking s t ∧ KeepsNotices s t)
      ∧ (CommandDue s r addr d cell 8 → ∃ t, exec (.setAttention r addr d) s = .next t
        ∧ t.cmd = { s.cmd with attnMask := BitVec.ofNat 16 (field d 8 2 % 1024), rewrites := s.cmd.rewrites + 1 }
        ∧ Commanded s t r addr d cell .done (le 8 (field d 8 2 % 1024)) ∧ Described s t
        ∧ LineOk t ∧ KeepsPacking s t ∧ KeepsNotices s t)

/-- DRAIN of one lane: its OPEN frame closes with reason DRAIN, and the result counts it; a lane with no frame is
passed over with a result of zeros; a lane number of 32..255 with ALL clear is refused BAD_ARGUMENT. A lane that holds
a RESERVED frame, here with no slot waiting, returns it to FREE, closes its OPEN frame if it holds one, and the result
counts both; reservations follow. DRAIN with ALL set counts the lanes that hold an OPEN frame and those that hold a
RESERVED one, and leaves no lane with either, every lane's frames being as their records say and no slot waiting;
where HeldOk holds, every OPEN frame goes CLOSING with DRAIN, or SEALING in ascending frame number if no file is in
flight, every RESERVED one FREE, and every other frame is as it was. -/
def Obligations.DrainClosesLanes : Prop :=
  ∀ (s : State) (r : Requester) (addr : UpAddr) (d : List Byte) (cell : CellNo), CommandDue s r addr d cell 9 →
    (bitAt d 9 0 = false → 32 ≤ field d 8 1 → ∃ t, exec (.drain r addr d) s = .next t
        ∧ Commanded s t r addr d cell .badArgument (le 8 0) ∧ KeepsPacking s t ∧ t.cmd = s.cmd ∧ KeepsNotices s t)
      ∧ (∀ l : LaneNo, bitAt d 9 0 = false → field d 8 1 = l.val → (s.lanes.table.get l).reserved = none →
        ((s.lanes.table.get l).openFrame = none → ∃ t, exec (.drain r addr d) s = .next t
            ∧ Commanded s t r addr d cell .done (le 4 0 ++ le 4 0) ∧ KeepsPacking s t ∧ t.cmd = s.cmd
            ∧ KeepsNotices s t)
          ∧ (∀ n, HoldsOpen s l n → ∃ t, exec (.drain r addr d) s = .next t
            ∧ Commanded s t r addr d cell .done (le 4 1 ++ le 4 0) ∧ ClosedFor s t n .drain
            ∧ t.lanes.table.get l = { s.lanes.table.get l with openFrame := none }
            ∧ (∀ m : LaneNo, m ≠ l → t.lanes.table.get m = s.lanes.table.get m)
            ∧ t.slots = s.slots ∧ t.coll = s.coll ∧ t.cmd = s.cmd ∧ KeepsNotices s t))
      ∧ (∀ (l : LaneNo) (m : FrameNo), bitAt d 9 0 = false → field d 8 1 = l.val →
        (s.lanes.table.get l).reserved = some m → s.frames.waitQ = [] → HeldOk s → ∃ t, exec (.drain r addr d) s = .next t
          ∧ DoneUnmarked s t r addr d cell (le 4 (if (s.lanes.table.get l).openFrame = none then 0 else 1) ++ le 4 1)
          ∧ t.lanes.table.get l = { s.lanes.table.get l with openFrame := none, reserved := none }
          ∧ GivesUp s t l m .drain ∧ t.coll = s.coll ∧ KeepsNotices s t)
      ∧ (bitAt d 9 0 = true → s.frames.waitQ = [] →
        (∀ l n, (s.lanes.table.get l).openFrame = some n → HoldsOpen s l n) →
        ∃ t, exec (.drain r addr d) s = .next t
          ∧ (∀ l, t.lanes.table.get l = { s.lanes.table.get l with openFrame := none, reserved := none })
          ∧ Commanded s t r addr d cell .done
              (le 4 ((List.finRange 32).countP (fun l => (s.lanes.table.get l).openFrame.isSome))
                ++ le 4 ((List.finRange 32).countP (fun l => (s.lanes.table.get l).reserved.isSome)))
          ∧ t.slots = s.slots ∧ t.coll = s.coll ∧ t.cmd = s.cmd
          ∧ (HeldOk s →
            let seals (m : FrameNo) : Bool :=
              (s.frames.table.get m).state == .opened && (s.frames.table.get m).inFlight == 0
            let before (m : FrameNo) : Nat := (List.finRange 1024).countP (fun j => decide (j < m) && seals j)
            t.copy = CopyUnit.advance^[(List.finRange 1024).countP seals] s.copy
              ∧ ∀ m : FrameNo,
                let f := s.frames.table.get m
                let g := { f with state := .closing, reason := some .drain, closeTick := s.lanes.tick }
                (f.state = .opened → f.inFlight ≠ 0 → t.frames.table.get m = g)
                  ∧ (f.state = .opened → f.inFlight = 0 →
                    t.frames.table.get m = sealingRecord (CopyUnit.advance^[before m] s.copy) g
                      ∧ Made t (t.sealHeaderWrite m (t.frames.table.get m)))
                  ∧ (f.state = .reserved → t.frames.table.get m = Frame.free)
                  ∧ (f.state ≠ .opened → f.state ≠ .reserved → t.frames.table.get m = f)))

/-- FREEZE sets the freeze flag and is answered DONE; the description record is written again when the flag changes,
and a part already frozen is left as it was. While the part is frozen, REGISTER, UNREGISTER, SET CLASS, SET PATTERN,
SET TABLE and SET SERIAL are refused FROZEN whatever their arguments; a code of 13..255 is refused BAD_ARGUMENT,
frozen or not. The status word is the one effect. -/
def Obligations.FreezingRefusesConfiguration : Prop :=
  ∀ (s : State) (r : Requester) (addr : UpAddr) (d : List Byte) (cell : CellNo) (code : Nat),
    CommandDue s r addr d cell code →
    let refused (c : Instr) (status : CmdStatus) : Prop :=
      ∃ t, exec c s = .next t ∧ Commanded s t r addr d cell status (le 8 0)
        ∧ KeepsPacking s t ∧ t.cmd = s.cmd ∧ KeepsNotices s t
    (s.cmd.frozen = true → code ∈ [1, 2, 3, 4, 5, 6] →
        refused (.register r addr d) .frozen ∧ refused (.unregister r addr d) .frozen
          ∧ refused (.setClass r addr d) .frozen ∧ refused (.setPattern r addr d) .frozen
          ∧ refused (.setTable r addr d) .frozen ∧ refused (.setSerial r addr d) .frozen)
      ∧ (13 ≤ code → refused (.commandCodeRefused r addr d) .badArgument)
      ∧ (code = 10 → ∃ t, exec (.freeze r addr d) s = .next t
        ∧ (s.cmd.frozen = false →
            t.cmd = { s.cmd with frozen := true, rewrites := s.cmd.rewrites + 1 } ∧ Described s t)
        ∧ (s.cmd.frozen = true → t.cmd = s.cmd)
        ∧ Commanded s t r addr d cell .done (le 8 0) ∧ KeepsPacking s t ∧ KeepsNotices s t)

/-- RESUME returns a HELD frame to SEALED with its confirmed set empty and its mismatch count 0, and all else of its
record kept; DISCARD releases a HELD frame, whatever its confirmed set, with PACK_RELEASED DISCARDED. Of a frame in
any other state both are refused NOT_HELD with the state found, and of a number at or above N_F BAD_ARGUMENT; the
frame is not changed. The confirmed set that PACK_RELEASED carries for CONFIRMED is log 19. -/
def Obligations.ResumeAndDiscardActOnHeldFrames : Prop :=
  ∀ (s : State) (r : Requester) (addr : UpAddr) (d : List Byte) (cell : CellNo),
    let refused (c : Instr) (status : CmdStatus) (result : Nat) : Prop :=
      ∃ t, exec c s = .next t ∧ Commanded s t r addr d cell status (le 8 result)
        ∧ KeepsPacking s t ∧ t.cmd = s.cmd ∧ KeepsNotices s t
    (CommandDue s r addr d cell 11 →
        (s.frames.nF ≤ field d 8 2 → refused (.resume r addr d) .badArgument 0)
          ∧ (∀ n : FrameNo, InUse s n → field d 8 2 = n.val →
            ((s.frames.table.get n).state ≠ .held →
                refused (.resume r addr d) .notHeld (s.frames.table.get n).state.code)
              ∧ ((s.frames.table.get n).state = .held → ∃ t, exec (.resume r addr d) s = .next t
                ∧ Commanded s t r addr d cell .done (le 8 5)
                ∧ t.frames.table.get n
                    = { s.frames.table.get n with state := .sealed, confirmed := 0, mismatches := 0 }
                ∧ OtherFrames s t n ∧ t.slots = s.slots ∧ t.coll = s.coll ∧ t.lanes = s.lanes ∧ t.copy = s.copy
                ∧ t.cmd = s.cmd ∧ KeepsNotices s t)))
      ∧ (CommandDue s r addr d cell 12 →
        (s.frames.nF ≤ field d 8 2 → refused (.discard r addr d) .badArgument 0)
          ∧ (∀ n : FrameNo, InUse s n → field d 8 2 = n.val →
            ((s.frames.table.get n).state ≠ .held →
                refused (.discard r addr d) .notHeld (s.frames.table.get n).state.code)
              ∧ ((s.frames.table.get n).state = .held → s.frames.waitQ = [] →
                (∀ l, (s.lanes.table.get l).openFrame = none) →
                ∃ t, exec (.discard r addr d) s = .next t
                ∧ Commanded s t r addr d cell .done (le 8 0) ∧ t.frames.table.get n = Frame.free
                ∧ OtherFrames s t n ∧ t.slots = s.slots ∧ t.coll = s.coll ∧ t.lanes = s.lanes ∧ t.copy = s.copy
                ∧ t.cmd = s.cmd
                ∧ Posted s t [.packReleased n (s.frames.table.get n).serial true (s.frames.table.get n).assigned
                    (s.frames.table.get n).confirmed])))

/-! ### Confirms, frames and notices -/

/-- A confirm that passes every check adds its pool to the confirmed set; while the set is not the assigned set the
frame stays SEALED, and in the event they become equal the frame is released with PACK_RELEASED CONFIRMED, its status
word reading FREE and zeros. A frame that is released may at once be some lane's RESERVED frame. That PACK_RELEASED
carries no confirmed set here is the model's reading (log 19). -/
def Obligations.ConfirmsReleaseTheFrame : Prop :=
  ∀ (s : State) (r : Requester) (addr : UpAddr) (d : List Byte) (cell : CellNo) (n : FrameNo) (p : PoolNo),
    ConfirmDue s r addr d cell → InUse s n → field d 14 2 = n.val →
    (s.frames.table.get n).state = .sealed → field d 8 6 = (s.frames.table.get n).serial →
    field d 16 1 = p.val → (s.frames.table.get n).assigned.getLsbD p.val = true → bitAt d 17 0 = true →
    BitVec.ofNat 32 (field d 20 4) = (s.frames.table.get n).body.digest →
    let f := s.frames.table.get n
    let set := f.confirmed ||| BitVec.ofNat 4 (2 ^ p.val)
    let entry := upstreamEntry r .control addr (s.decoder.control.store + (0x0800 + cell.val * 64)) d
    (set ≠ f.assigned → ∃ t, exec (.confirm r addr d) s = .next t
        ∧ t.frames.table.get n = { f with confirmed := set } ∧ OtherFrames s t n
        ∧ Took s t r entry [s.confirmStatusWrite cell (BitVec.ofNat 8 (field d 0 1)) .confirmed .sealed set f.mismatches]
        ∧ t.slots = s.slots ∧ t.coll = s.coll ∧ t.lanes = s.lanes ∧ t.copy = s.copy ∧ t.cmd = s.cmd
        ∧ KeepsPath s t ∧ KeepsNotices s t)
      ∧ (set = f.assigned → s.frames.waitQ = [] → ∃ t, exec (.confirm r addr d) s = .next t
        ∧ FreedFrame t n
        ∧ (∀ m : FrameNo, m ≠ n → (s.frames.table.get m).state ≠ .free →
            t.frames.table.get m = s.frames.table.get m)
        ∧ s.confirmStatusWrite cell (BitVec.ofNat 8 (field d 0 1)) .confirmed .free 0 0
            ∈ (t.queue.unsent.drop (s.queue.unsent.length + 1)).filterMap (fun x => match x.origin with
              | .own kind => some { kind := kind, addr := x.addr, data := x.data }
              | .upstream _ _ _ => none)
        ∧ Posted s t [.packReleased n f.serial false f.assigned 0]
        ∧ t.slots = s.slots ∧ t.coll = s.coll ∧ t.copy = s.copy ∧ t.cmd = s.cmd ∧ KeepsPath s t)

/-- The refusals of a confirm, in the order of the checks: a frame number at or above N_F, BAD_FRAME; a frame not
SEALED, NOT_SEALED; another serial, WRONG_PACK; a pool not assigned, NOT_ASSIGNED; no digest, NO_DIGEST. The frame is
not changed, and the status word carries its state, confirmed set and mismatch count, zeros for BAD_FRAME. A confirm
that fails at its digest alone, MISMATCH, raises the frame's mismatch count and posts CONFIRM_REFUSED with the count
after the rise; at the third the frame goes HELD and PACK_HELD is posted with cause MISMATCH. -/
def Obligations.RefusedConfirmsAndMismatches : Prop :=
  ∀ (s : State) (r : Requester) (addr : UpAddr) (d : List Byte) (cell : CellNo), ConfirmDue s r addr d cell →
    let x := upstreamEntry r .control addr (s.decoder.control.store + (0x0800 + cell.val * 64)) d
    let status (st : ConfirmStatus) (state : FrameState) (set : PoolSet) (count : Nat) : OwnWrite :=
      s.confirmStatusWrite cell (BitVec.ofNat 8 (field d 0 1)) st state set count
    let refused (st : ConfirmStatus) (state : FrameState) (set : PoolSet) (count : Nat) : Prop :=
      ∃ t, exec (.confirm r addr d) s = .next t ∧ Took s t r x [status st state set count]
        ∧ KeepsPath s t ∧ KeepsPacking s t ∧ KeepsNotices s t ∧ t.cmd = s.cmd
    (s.frames.nF ≤ field d 14 2 → refused .badFrame .free 0 0)
      ∧ (∀ n : FrameNo, InUse s n → field d 14 2 = n.val →
        let f := s.frames.table.get n
        let assigned := ∃ p : PoolNo, field d 16 1 = p.val ∧ f.assigned.getLsbD p.val = true
        (f.state ≠ .sealed → refused .notSealed f.state f.confirmed f.mismatches)
          ∧ (f.state = .sealed → field d 8 6 ≠ f.serial → refused .wrongPack .sealed f.confirmed f.mismatches)
          ∧ (f.state = .sealed → field d 8 6 = f.serial → ¬assigned →
            refused .notAssigned .sealed f.confirmed f.mismatches)
          ∧ (f.state = .sealed → field d 8 6 = f.serial → assigned → bitAt d 17 0 = false →
            refused .noDigest .sealed f.confirmed f.mismatches)
          ∧ (f.state = .sealed → field d 8 6 = f.serial → assigned → bitAt d 17 0 = true →
            BitVec.ofNat 32 (field d 20 4) ≠ f.body.digest →
            let count := f.mismatches + 1
            let state : FrameState := if count = 3 then .held else .sealed
            let notice : NoticeBody :=
              .confirmRefused n (field d 16 1) count (BitVec.ofNat 32 (field d 20 4)) f.body.digest f.serial
            ∃ t, exec (.confirm r addr d) s = .next t
              ∧ t.frames.table.get n = { f with mismatches := count, state := state } ∧ OtherFrames s t n
              ∧ Took s t r x [status .mismatch state f.confirmed count]
              ∧ Posted s t (if count = 3 then [notice, .packHeld n f.serial true] else [notice])
              ∧ t.slots = s.slots ∧ t.coll = s.coll ∧ t.lanes = s.lanes ∧ t.copy = s.copy ∧ t.cmd = s.cmd
              ∧ KeepsPath s t))

/-- The DISCARD of a HELD frame, and the confirm that completes a SEALED one, with slots waiting and no frame FREE:
the frame freed is granted to the lane of the head in the same event. It opens there as a new pack with the next
serial, the head's file is placed as its first and leaves the queue, and the header and its status word PLACED are
made; slots of other lanes keep their places. PACK_RELEASED is posted, and FRAMES_AVAILABLE if the queue became empty.
A second slot of the lane is placed behind the first if it fits, and else stays in the queue. The command is answered
DONE or CONFIRMED with FREE. The confirmed set that PACK_RELEASED carries for CONFIRMED is log 19. -/
def Obligations.FreedFramesAreGranted : Prop :=
  ∀ (s : State) (r : Requester) (addr : UpAddr) (d : List Byte) (cell : CellNo) (n : FrameNo) (k : SlotNo)
    (rest : List SlotNo) (f : File) (c : ClassNo) (l : LaneNo),
    s.frames.waitQ = k :: rest → s.slots.table.get k = .waiting f c l →
    (∀ m, InUse s m → (s.frames.table.get m).state ≠ .free) → InUse s n → (s.lanes.table.get l).openFrame = none →
    s.cmd.nextSerial < 2 ^ 48 → HeldOk s →
    let b := (s.lanes.table.get l).binding
    let pack := packRecord s l b
    let old := s.frames.table.get n
    StaysOpen pack f.intent.length →
    let placed (j : SlotNo) (g : File) (entry : Nat) : OwnWrite :=
      s.statusWrite j 3 .placed g.lastReq 0 (some { frame := n, entry := entry, serial := s.cmd.nextSerial }) 0
    let opens (t : State) (discarded : Bool) (confirmed : PoolSet) : Prop :=
      t.cmd = { s.cmd with nextSerial := s.cmd.nextSerial + 1 }
        ∧ t.lanes.table.get l = { s.lanes.table.get l with openFrame := some n, lastPlace := placedAt s l }
        ∧ (∀ m : LaneNo, m ≠ l → t.lanes.table.get m = s.lanes.table.get m)
        ∧ OtherFrames s t n ∧ Made t (s.openHeaderWrite n pack) ∧ Made t (placed k f 0)
        ∧ t.slots.table.get k = .filling f c l { frame := n, entry := 0, offset := 0 }
        ∧ t.copy = s.copy ∧ KeepsPath s t
        ∧ Posted s t (.packReleased n old.serial discarded old.assigned confirmed
            :: if t.frames.waitQ = [] then [.framesAvailable 0] else [])
    let alone (t : State) : Prop := t.frames.waitQ = rest
      ∧ t.frames.table.get n = withFile pack f.intent.length s.lanes.tick
      ∧ (∀ j : SlotNo, j ≠ k → t.slots.table.get j = s.slots.table.get j)
      ∧ t.coll = { s.coll with entries := touched f.intent.tag s.coll.entries }
    let discards : Prop := CommandDue s r addr d cell 12 ∧ field d 8 2 = n.val ∧ old.state = .held
    let completes : Prop := ConfirmDue s r addr d cell ∧ field d 14 2 = n.val ∧ old.state = .sealed
      ∧ field d 8 6 = old.serial ∧ bitAt d 17 0 = true ∧ BitVec.ofNat 32 (field d 20 4) = old.body.digest
      ∧ ∃ p : PoolNo, field d 16 1 = p.val ∧ old.assigned.getLsbD p.val = true
        ∧ old.confirmed ||| BitVec.ofNat 4 (2 ^ p.val) = old.assigned
    ((∀ j ∈ rest, ∀ g c', s.slots.table.get j ≠ .waiting g c' l) →
        (discards → ∃ t, exec (.discard r addr d) s = .next t ∧ opens t true old.confirmed ∧ alone t
            ∧ TookOpening s t n r (upstreamEntry r .control addr (s.decoder.control.store + (0x0400 + cell.val * 64)) d)
                [s.commandStatusWrite cell (BitVec.ofNat 8 (field d 1 1)) 12 { status := .done, result := le 8 0 }])
          ∧ (completes → ∃ t, exec (.confirm r addr d) s = .next t ∧ opens t false 0 ∧ alone t
            ∧ TookOpening s t n r (upstreamEntry r .control addr (s.decoder.control.store + (0x0800 + cell.val * 64)) d)
                [s.confirmStatusWrite cell (BitVec.ofNat 8 (field d 0 1)) .confirmed .free 0 0]))
      ∧ (∀ (j : SlotNo) (g : File) (c' : ClassNo), rest = [j] → j ≠ k → s.slots.table.get j = .waiting g c' l → discards →
        let one := withFile pack f.intent.length s.lanes.tick
        (Fits s one g.intent.length → StaysOpen one g.intent.length →
            ∃ t, exec (.discard r addr d) s = .next t ∧ opens t true old.confirmed ∧ t.frames.waitQ = []
              ∧ t.frames.table.get n = withFile one g.intent.length s.lanes.tick ∧ Made t (placed j g 1)
              ∧ t.slots.table.get j = .filling g c' l { frame := n, entry := 1, offset := one.fill })
          ∧ (¬Fits s one g.intent.length →
            ∃ t, exec (.discard r addr d) s = .next t ∧ opens t true old.confirmed ∧ alone t))

/-- A frame that becomes FREE with no slot waiting, here by DISCARD, is followed by reservations: lanes in ascending
number that are bound and hold an OPEN frame and no RESERVED one take the lowest-numbered FREE frame each, while more
than the standby floor is FREE. An OPEN that finds no frame of its lane and none FREE, with the queue empty, makes
every lane give its RESERVED frame up; the lowest-numbered of them opens for the file in the same event, its header
and the status word PLACED enter the queue behind the record write, and no notice is posted. -/
def Obligations.ReservationsFollowTheFloor : Prop :=
  ∀ (s : State) (r : Requester) (addr : UpAddr) (d : List Byte), s.frames.waitQ = [] →
    (∀ (cell : CellNo) (n : FrameNo), CommandDue s r addr d cell 12 → InUse s n → field d 8 2 = n.val →
        (s.frames.table.get n).state = .held →
        ∃ t, exec (.discard r addr d) s = .next t ∧ Reserves s t ∧ FreedFrame t n
          ∧ (∀ m : FrameNo, m ≠ n → (s.frames.table.get m).state ≠ .free →
              t.frames.table.get m = s.frames.table.get m)
          ∧ (∀ l, (t.lanes.table.get l).openFrame = (s.lanes.table.get l).openFrame
              ∧ (t.lanes.table.get l).binding = (s.lanes.table.get l).binding
              ∧ (∀ m, (s.lanes.table.get l).reserved = some m → (t.lanes.table.get l).reserved = some m)))
      ∧ (∀ (k : SlotNo) (c : ClassNo) (l : LaneNo) (g : FrameNo), RecordDue s r addr d k 1 2 →
        s.slots.table.get k = .idle → LengthOk d → RoutedTo s d c l →
        (s.lanes.table.get l).openFrame = none → (s.lanes.table.get l).reserved = none →
        (∀ m, InUse s m → (s.frames.table.get m).state ≠ .free) →
        InUse s g → (s.frames.table.get g).state = .reserved →
        (∀ m : FrameNo, m < g → (s.frames.table.get m).state ≠ .reserved) → s.cmd.nextSerial < 2 ^ 48 → HeldOk s →
        let b := (s.lanes.table.get l).binding
        StaysOpen (packRecord s l b) (field d 12 4) →
        ∃ t, exec (.openFile r addr d) s = .next t ∧ OpensPack s t r addr d k c l b g ∧ t.frames.waitQ = []
          ∧ (∀ m : FrameNo, HoldsPack s m → t.frames.table.get m = s.frames.table.get m)
          ∧ (∀ m, Lacks t m → t.cmd.nextSerial < 2 ^ 48 → t.countFrames .free ≤ t.frames.floor)
          ∧ KeepsNotices s t)

/-- A consumer-index write, its value taken modulo 1,024, is accepted when it lies on the ring from the consumer up to
the producer: it becomes the consumer, FAULTED is left, the STRAY notices passed stop being outstanding, and kept
clearing writes are made again. A value beyond the producer changes nothing. -/
def Obligations.ConsumerIndexConsumesNotices : Prop :=
  ∀ (s : State) (r : Requester) (addr : UpAddr) (d : List Byte),
    AtControl s r addr d 0x0C00 → d.length = 8 → RoomFor s 0 →
    let v : RingPos := BitVec.ofNat 10 (field d 0 8)
    let u := s.notes
    ∃ t, exec (.consumerIndex r addr d) s = .next t
      ∧ Took s t r (upstreamEntry r .control addr (s.decoder.control.store + 0x0C00) d) []
      ∧ KeepsPath s t ∧ KeepsPacking s t ∧ t.cmd = s.cmd
      ∧ t.notes.pending = u.pending ∧ t.notes.producer = u.producer ∧ t.notes.lap = u.lap
      ∧ t.notes.records = u.records ∧ t.notes.tallies = u.tallies ∧ t.notes.toClear = u.toClear
      ∧ ((v - u.consumer).toNat ≤ (u.producer - u.consumer).toNat →
          t.notes.consumer = v ∧ t.notes.faulted = false ∧ t.notes.keptClears = []
          ∧ (∀ p ∈ u.keptClears, Made t (clearingWrite s.decoder.control.store p))
          ∧ (∀ q : Requester, t.notes.strayOut.get q = true ↔ u.strayOut.get q = true
              ∧ ∀ i < (v - u.consumer).toNat,
                (u.records.get (u.consumer + BitVec.ofNat 10 i).toFin).bind (fun x => x.strayOf) ≠ some q))
      ∧ ((u.producer - u.consumer).toNat < (v - u.consumer).toNat →
          t.notes.consumer = u.consumer ∧ t.notes.faulted = u.faulted ∧ t.notes.keptClears = u.keptClears
          ∧ t.notes.strayOut = u.strayOut)

/-- Posting a notice. With room, a ROUTINE one goes to the tail of the pending queue, and an URGENT one ahead of every
ROUTINE one but the notice in writing, and behind the URGENT ones. With 32 pending, an URGENT one takes the place of
the oldest ROUTINE one not in writing; a ROUTINE one, or an URGENT one when there is none, is lost. Each notice lost,
the displaced one among them, raises the lost count, which stops at 65,535, and a STRAY lost stops being outstanding.
Nothing else of the unit changes. -/
def Obligations.NoticesWaitInThePendingQueue : Prop :=
  ∀ (u : NoticeUnit) (n : Notice),
    let urgent (m : Notice) : Prop := m.kind = .storeFault ∨ m.kind = .packHeld ∨ m.kind = .framesExhausted
    let inWriting := if u.writing = .none then 0 else 1
    let loses (m : Notice) : NoticeUnit := { u with
      lost := min (u.lost + 1) 65535
      strayOut := match m.body with
        | .stray r _ _ => put u.strayOut r false
        | _ => u.strayOut }
    let queued (old new : List Notice) : Prop :=
      (¬urgent n → new = old ++ [n])
        ∧ (urgent n → ∃ front back, old = front ++ back ∧ new = front ++ n :: back
          ∧ (∀ m ∈ front.drop inWriting, urgent m) ∧ (∀ m ∈ back.head?, ¬urgent m)
          ∧ (old ≠ [] → inWriting ≤ front.length))
    let after := u.enqueue n
    (u.pending.length < 32 → after = { u with pending := after.pending } ∧ queued u.pending after.pending)
      ∧ (32 ≤ u.pending.length → ¬urgent n → after = loses n)
      ∧ (32 ≤ u.pending.length → urgent n → (∀ m ∈ u.pending.drop inWriting, urgent m) → after = loses n)
      ∧ (∀ front m back, 32 ≤ u.pending.length → urgent n → u.pending = front ++ m :: back →
        inWriting ≤ front.length → (∀ x ∈ front.drop inWriting, urgent x) → ¬urgent m →
        after = { loses m with pending := after.pending } ∧ queued (front ++ back) after.pending)

/-! ### The store port -/

/-- The store port takes the oldest unsent write: it is sent, or, if it is cancelled, freed with a PROTECT notice in
the name of its frame and requester, posted in ACTIVE. A read its requester held behind it follows it, once no unsent
write counts as that requester's. With no write unsent nothing is sent. That a held read goes once no unsent write
counts as its requester's, and that nothing happens with none unsent, is the model's reading (log 20, 23). -/
def Obligations.TheOldestUnsentWriteIsSent : Prop :=
  ∀ s : State,
    (s.queue.unsent = [] → exec .writeSend s = .next { s with linkOut := [], storeOut := [], configOut := [] })
      ∧ (∀ (x : Entry) (rest : List Entry), s.queue.unsent = x :: rest →
        let follows : Option ReadReq := x.countsFor.bind (fun r => match s.port.awaiting.get r with
          | some (.held q) => if rest.any (fun y => y.countsFor == some r) then none else some q
          | _ => none)
        let sends (t : State) (first : List StoreRequest) : Prop :=
          (∃ later : List OwnWrite, t.queue.unsent = rest ++ later.map (fun w => w.entry none))
            ∧ t.queue.reads = s.queue.reads ++ follows.toList.map (fun q => { read := q, live := true })
            ∧ t.queue.probes = s.queue.probes
            ∧ t.storeOut = first ++ follows.toList.map (fun q => .read q.addr q.len) ∧ t.linkOut = []
            ∧ (∀ r, t.port.awaiting.get r
                = if x.countsFor = some r ∧ follows.isSome then some .sent else s.port.awaiting.get r)
            ∧ t.loader = s.loader ∧ t.decoder = s.decoder ∧ KeepsPacking s t ∧ t.cmd = s.cmd
        (x.cancelled = false → ∃ t, exec .writeSend s = .next t ∧ sends t [.write x.addr x.data]
            ∧ t.queue.sent = s.queue.sent ++ [x] ∧ KeepsNotices s t)
          ∧ (∀ r n addr, x.cancelled = true → x.origin = .upstream r (.pack n) addr → s.loader.state = .active →
            ∃ t, exec .writeSend s = .next t ∧ sends t [] ∧ t.queue.sent = s.queue.sent
              ∧ Posted s t [.protect (.cancelled n) r addr]))

/-- The answer to an upstream write frees its entry. DONE does nothing else. FAULT posts STORE_FAULT with the
requester, the store address and the length; for a slot data write with its slot and frame also, the FAULT flag of the
frame is set, and STORE_FAULT in the account of the file, if the slot still holds the file the write was for. Nothing
is posted for a write that passed in PASSIVE. The answer to an own write frees its entry too. DONE to a status word,
to the description record, to a header made at OPEN or to an index entry does nothing else, nor does either answer to
the passive record. FAULT to a status word or to the description record posts STORE_FAULT with the record's address;
FAULT to a header made at OPEN or to an index entry sets the FAULT flag of the frame and posts STORE_FAULT with the
frame and the pack serial. That FAULT marks only a frame that holds a pack is the model's reading (log 24). -/
def Obligations.AnswersToWrites : Prop :=
  ∀ (s : State) (x : Entry) (rest : List Entry), s.queue.sent = x :: rest →
    let frees (c : Instr) : Prop := ∃ t, exec c s = .next t ∧ Freed s t rest
      ∧ KeepsPath s t ∧ KeepsPacking s t ∧ KeepsNotices s t ∧ t.cmd = s.cmd
    let reports (c : Instr) (w : FaultedWrite) (a : Nat) : Prop := ∃ t, exec c s = .next t ∧ Freed s t rest
      ∧ Posted s t [.storeFault w a] ∧ KeepsPath s t ∧ KeepsPacking s t ∧ t.cmd = s.cmd
    let flagged (t : State) (n : FrameNo) (w : FaultedWrite) : Prop :=
      Freed s t rest ∧ Posted s t [.storeFault w x.addr] ∧ KeepsPath s t
        ∧ t.frames.table.get n = { s.frames.table.get n with fault := true } ∧ OtherFrames s t n
        ∧ t.coll = s.coll ∧ t.lanes = s.lanes ∧ t.copy = s.copy ∧ t.cmd = s.cmd
    let flags (c : Instr) (n : FrameNo) (w : FaultedWrite) : Prop :=
      HoldsPack s n → ∃ t, exec c s = .next t ∧ flagged t n w ∧ t.slots = s.slots
    (∀ r origin addr, x.origin = .upstream r origin addr →
        frees (.storeWriteAnswer .done) ∧ (origin = .passive → frees (.storeWriteAnswer .fault))
          ∧ (s.loader.state = .active → origin ≠ .passive → (∀ k n entry, origin ≠ .slotData k n entry) →
            reports (.storeWriteAnswer .fault) (.upstream r x.data.length) x.addr)
          ∧ (∀ k n entry, s.loader.state = .active → origin = .slotData k n entry → HoldsPack s n →
            ∃ t, exec .dataWriteFault s = .next t ∧ exec (.storeWriteAnswer .fault) s = .next t
              ∧ flagged t n (.slotData r k n x.data.length)
              ∧ (∀ j : SlotNo, t.slots.table.get j = match s.slots.table.get j with
                | .filling f c l p =>
                  if j = k ∧ p.frame = n ∧ p.entry = entry then
                    .filling { f with account := { f.account with storeFault := true } } c l p
                  else .filling f c l p
                | y => y)))
      ∧ (∀ k, x.origin = .own (.statusWord k) → frees .ownWriteDone
        ∧ (s.loader.state = .active →
          reports .statusWordFault (.statusWord k) (s.decoder.control.store + (0x1000 + k.val * 64))))
      ∧ (∀ c, x.origin = .own (.confirmStatus c) → frees .ownWriteDone
        ∧ (s.loader.state = .active →
          reports .confirmStatusFault (.confirmStatus c) (s.decoder.control.store + (0x0800 + c.val * 64))))
      ∧ (∀ c, x.origin = .own (.commandStatus c) → frees .ownWriteDone
        ∧ (s.loader.state = .active →
          reports .commandStatusFault (.commandStatus c) (s.decoder.control.store + (0x0400 + c.val * 64))))
      ∧ (x.origin = .own .description → frees .ownWriteDone
        ∧ (s.loader.state = .active → reports .descriptionRecordFault .description x.addr))
      ∧ (∀ n serial, x.origin = .own (.openHeader n serial) → frees (.openHeaderAnswer .done)
        ∧ (s.loader.state = .active → flags (.openHeaderAnswer .fault) n (.openHeader n serial)))
      ∧ (∀ n entry serial, x.origin = .own (.indexEntry n entry serial) → frees (.indexEntryAnswer .done)
        ∧ (s.loader.state = .active → flags (.indexEntryAnswer .fault) n (.indexEntry n entry serial)))
      ∧ (x.origin = .own .passiveRecord → ∀ a, frees (.passiveRecordAnswer a))

/-- The answer to a seal header decides the seal of its SEALING frame: DONE with the FAULT flag clear, SEALED with
PACK_SEALED; DONE with it set, HELD with PACK_HELD cause FAULT; FAULT sets the flag, posts STORE_FAULT and holds the
frame. All else of the frame's record is kept. -/
def Obligations.SealHeaderAnswersDecideTheSeal : Prop :=
  ∀ (s : State) (x : Entry) (rest : List Entry) (n : FrameNo) (serial : Nat),
    s.queue.sent = x :: rest → x.origin = .own (.sealHeader n serial) → s.loader.state = .active →
    (s.frames.table.get n).state = .sealing →
    let f := s.frames.table.get n
    let decides (c : Instr) (g : Frame) (l : List NoticeBody) : Prop := ∃ t, exec c s = .next t ∧ Freed s t rest
      ∧ t.frames.table.get n = g ∧ OtherFrames s t n ∧ Posted s t l ∧ KeepsPath s t
      ∧ t.slots = s.slots ∧ t.coll = s.coll ∧ t.lanes = s.lanes ∧ t.copy = s.copy ∧ t.cmd = s.cmd
    (f.fault = false → decides .sealHeaderDone { f with state := .sealed }
        [.packSealed n f.lane f.forced f.reason f.count (if f.mixed then 0 else f.tag)
          (512 + f.params.files * 64 + f.fill) f.assigned f.body.digest f.serial])
      ∧ (f.fault = true → decides .sealHeaderDone { f with state := .held } [.packHeld n f.serial false])
      ∧ decides .sealHeaderFault { f with fault := true, state := .held }
          [.storeFault (.sealHeader n serial) x.addr, .packHeld n f.serial false]

/-- The answers to the notice unit's writes. DONE to the ring write of the head takes the notice off the queue,
records its kind at the producer's position, moves the producer on and turns the lap bit at the wrap; the next ring
write is made at once where it may be. FAULT enters FAULTED and keeps the notice with its lost count. A clearing write
answered DONE counts as cleared; one answered FAULT enters FAULTED and is kept. That the record of a ring position
holds a STRAY's requester is the model's reading (log 13). -/
def Obligations.AnswersToRingWrites : Prop :=
  ∀ (s : State) (x : Entry) (rest : List Entry), s.queue.sent = x :: rest →
    let u := s.notes
    let gives (c : Instr) (holds : State → Prop) : Prop := ∃ t, exec c s = .next t ∧ Freed s t rest ∧ holds t
      ∧ KeepsPath s t ∧ KeepsPacking s t ∧ t.cmd = s.cmd
    let goesOn (v : NoticeUnit) (t : State) : Prop :=
      PostedFrom v t [] ∧ ∀ w, (v.ringWrite s.decoder.control.store).2 = some w → Made t w
    (x.origin = .own .notice →
        (∀ n l, u.pending = n :: l → gives .noticeWriteDone (goesOn { u with
            pending := l, writing := .none, producer := u.producer + 1,
            lap := if u.producer = 1023 then !u.lap else u.lap,
            records := put u.records u.producer.toFin (some { kind := n.kind, strayOf := n.body.strayOf }) }))
        ∧ (∀ lost, u.writing = .made lost → gives .noticeWriteFault (fun t =>
            t.notes = { u with faulted := true, writing := .parked lost })))
      ∧ (∀ p, x.origin = .own (.clearing p) →
        gives (.clearingWriteAnswer .done) (goesOn { u with toClear := u.toClear - 1 })
          ∧ gives (.clearingWriteAnswer .fault) (fun t => t.notes.faulted = true ∧ t.notes.toClear = u.toClear
            ∧ (∀ q, q ∈ t.notes.keptClears ↔ q = p ∨ q ∈ u.keptClears) ∧ t.notes.pending = u.pending
            ∧ t.notes.writing = u.writing ∧ t.notes.lost = u.lost ∧ t.notes.producer = u.producer))

/-- The answer to the oldest requester read: DATA answers its requester with the bytes read and zero bytes for the
part of a slot read beyond the declared length, FAULT with DATA_FAULT, and the request is no longer awaiting; the
answer of a read whose request was discarded is discarded. -/
def Obligations.AnswersToReads : Prop :=
  ∀ (s : State) (x : OutRead) (rest : List OutRead), s.queue.reads = x :: rest →
    let gives (a : ReadAnswer) (out : List LinkAnswer) : Prop := ∃ t, exec (.readAnswer a) s = .next t
      ∧ t.linkOut = out ∧ t.storeOut = [] ∧ t.queue.reads = rest ∧ t.queue.sent = s.queue.sent
      ∧ t.queue.probes = s.queue.probes
      ∧ (∀ r, t.port.awaiting.get r
          = if x.live = true ∧ r = x.read.requester then none else s.port.awaiting.get r)
      ∧ t.port.linkReset = s.port.linkReset ∧ t.loader = s.loader ∧ t.decoder = s.decoder
      ∧ KeepsPacking s t ∧ KeepsNotices s t ∧ t.cmd = s.cmd
    (x.live = true → ∀ bytes : List Byte, bytes.length = x.read.len →
        gives (.data bytes) [{ r := x.read.requester, answer := .data (bytes ++ List.replicate x.read.pad 0) }])
      ∧ (x.live = true → gives .fault [{ r := x.read.requester, answer := .dataFault }])
      ∧ (x.live = false → ∀ a, gives a [])

/-- The answer to a probe of the search in progress: the entry's tag is the number in its first four bytes, least
significant first, and its class the fifth byte. A tag below the one sought narrows the search to the upper part, one
above it to the lower part, and the next probe is sent; a hit, or a part left empty, ends the search, and a class
found for a tag the table does not hold is cached. A FAULT ends it with LOOKUP_FAULT and nothing cached. The class
found is delivered to the slot served, here by way of the OPEN pack of lane 0. The answer of an abandoned search is
discarded. The probe's address lies in the store here: the field beyond it is free (log 17). -/
def Obligations.ProbeAnswersNarrowTheSearch : Prop :=
  ∀ (s : State) (x : OutProbe) (rest : List OutProbe), s.queue.probes = x :: rest →
    let keeps (t : State) : Prop := t.linkOut = [] ∧ t.queue.sent = s.queue.sent ∧ t.queue.reads = s.queue.reads
      ∧ KeepsPath s t ∧ t.cmd = s.cmd ∧ t.copy = s.copy
    let still (t : State) : Prop := t.slots = s.slots ∧ t.lanes = s.lanes ∧ t.frames = s.frames
    (x.live = false → ∀ a, ∃ t, exec (.probeAnswer a) s = .next t ∧ t.queue.probes = rest ∧ t.storeOut = []
        ∧ t.coll = s.coll ∧ still t ∧ KeepsNotices s t ∧ keeps t)
      ∧ (∀ q, x.live = true → s.coll.search = some q →
        let mid := (q.lo + q.hi) / 2
        (∀ bytes : List Byte, bytes.length = 16 →
          let tag : Tag := BitVec.ofNat 32 (field bytes 0 4)
          let narrows (next : Search) : Prop :=
            next.base + (next.lo + next.hi) / 2 * 16 + 16 ≤ 2 ^ 40 →
            let a := next.base + (next.lo + next.hi) / 2 * 16
            ∃ t, exec (.probeAnswer (.data bytes)) s = .next t ∧ t.coll = { s.coll with search := some next }
              ∧ t.queue.probes = rest ++ [{ addr := a, live := true }] ∧ t.storeOut = [.read a 16]
              ∧ still t ∧ KeepsNotices s t ∧ keeps t
          (tag < q.tag → mid + 1 ≤ q.hi → narrows { q with lo := mid + 1 })
            ∧ (q.tag < tag → q.lo < mid → narrows { q with hi := mid - 1 })
            ∧ (∀ c : ClassNo, (tag = q.tag ∨ (tag < q.tag ∧ q.hi < mid + 1) ∨ (q.tag < tag ∧ mid ≤ q.lo)) →
              c.val = (if tag = q.tag ∧ field bytes 4 1 < 8 then field bytes 4 1 else 0) →
              let found : CollEntry :=
                { tag := q.tag, cls := c, pinned := false, listed := decide (tag = q.tag), lane := none }
              s.coll.entries.find? (fun y => y.tag == q.tag) = none → s.coll.entries.length < 128 →
              (q.claimed = false → s.coll.lookupQ = [] →
                ∃ t, exec (.probeAnswer (.data bytes)) s = .next t
                  ∧ t.coll = { s.coll with search := none, entries := found :: s.coll.entries }
                  ∧ t.queue.probes = rest ∧ t.storeOut = [] ∧ still t ∧ KeepsNotices s t ∧ keeps t)
              ∧ (∀ f n, q.claimed = true → s.slots.table.get q.slot = .lookup f → f.intent.tag = q.tag →
                s.coll.lookupQ = [q.slot] → s.frames.waitQ = [] → (s.coll.classes.get c).ownLane = false →
                HoldsOpen s 0 n → Fits s (s.frames.table.get n) f.intent.length →
                StaysOpen (s.frames.table.get n) f.intent.length →
                let fr := s.frames.table.get n
                ∃ t, exec (.probeAnswer (.data bytes)) s = .next t
                  ∧ t.coll = { s.coll with search := none, entries := found :: s.coll.entries, lookupQ := [] }
                  ∧ (∀ j : SlotNo, t.slots.table.get j
                      = if j = q.slot then .filling f c 0 { frame := n, entry := fr.count, offset := fr.fill }
                        else s.slots.table.get j)
                  ∧ t.frames.table.get n = withFile fr f.intent.length s.lanes.tick
                  ∧ OtherFrames s t n ∧ t.lanes = s.lanes ∧ t.queue.probes = rest ∧ t.storeOut = []
                  ∧ Made t (s.statusWrite q.slot 3 .placed f.lastReq 0
                      (some { frame := n, entry := fr.count, serial := fr.serial }) 0)
                  ∧ KeepsNotices s t ∧ keeps t)))
          ∧ (s.loader.state = .active → q.claimed = false → s.coll.lookupQ = [] →
            ∃ t, exec (.probeAnswer .fault) s = .next t ∧ t.coll = { s.coll with search := none }
              ∧ t.queue.probes = rest ∧ t.storeOut = [] ∧ still t ∧ keeps t
              ∧ Posted s t [.lookupFault q.slot (q.base + mid * 16) q.tag]))

/-! ### Digests -/

/-- Adding bytes at an offset to a pair of sums raises S by the sum of the bytes and P by the sum of each byte times
its weight, the offset plus one, modulo 65,521. Folding the sums of a file at body offset `d` adds what its bytes
lying from `d` on would have added, whatever order its bytes were received in: the sums of two parts may be formed in
either order. -/
def Obligations.FoldingAFileAddsItsBytesInPlace : Prop :=
  ∀ (a : Acc) (bs : List Byte), AccOk a →
    (∀ o, (a.addBytes o bs).s = (a.s + (bs.map BitVec.toNat).sum) % 65521
        ∧ (a.addBytes o bs).p = (a.p + (bs.zipIdx.map (fun x => (o + x.2 + 1) % 65521 * x.1.toNat)).sum) % 65521)
      ∧ (∀ d, a.fold ({ s := 0, p := 0 : Acc }.addBytes 0 bs) d = a.addBytes d bs)
      ∧ (∀ (cs : List Byte) (o q : Nat), (a.addBytes o bs).addBytes q cs = (a.addBytes q cs).addBytes o bs)
      ∧ (∀ o, AccOk (a.addBytes o bs))

/-! ### What every step keeps -/

/-- Power-on reset has every property that steps keep. The values before a profile are log 12, and nothing here rests
on them. -/
def Obligations.ResetHasTheKeptProperties : Prop :=
  LineOk State.reset ∧ QueueOk State.reset ∧ ExtentsOk State.reset ∧ SumsOk State.reset ∧ PatternOk State.reset
    ∧ PendingOk State.reset ∧ HeldOk State.reset ∧ InFlightOk State.reset ∧ SerialsOk State.reset
    ∧ QueuesOk State.reset ∧ State.reset.cmd.nextSerial ≤ 2 ^ 48

/-- The attention line stands after every step where R166 puts it: asserted throughout PASSIVE, and in ACTIVE exactly
while a notice pending or unconsumed in the ring is of an URGENT kind or of a ROUTINE kind whose mask bit is set, or
while FAULTED. -/
def Obligations.EveryStepKeepsTheLineRight : Prop :=
  ∀ s t : State, LineOk s → step s = .next t → LineOk t

/-- The store queue never holds more than 48 upstream writes and 16 own writes, and own writes are held only while no
own entry is free. -/
def Obligations.EveryStepKeepsTheQueueBounds : Prop :=
  ∀ s t : State, QueueOk s → step s = .next t → QueueOk t

/-- The pending queue never holds more than 32 notices, and but for the notice in writing no ROUTINE one stands ahead
of an URGENT one. -/
def Obligations.EveryStepKeepsThePendingQueueInForm : Prop :=
  ∀ s t : State, PendingOk s → step s = .next t → PendingOk t

/-- The extent list of every file keeps its fixed form: at most 8 ranges, ordered, not touching, within the file. -/
def Obligations.EveryStepKeepsExtentsInForm : Prop :=
  ∀ s t : State, ExtentsOk s → step s = .next t → ExtentsOk t

/-- Every pair of sums, of each file and of each frame's body and index, stays in 0..65,520; and the period of the
copy pattern stays in 1..16 with its counter below it. -/
def Obligations.EveryStepKeepsSumsAndPatternInRange : Prop :=
  ∀ s t : State, step s = .next t → (SumsOk s → SumsOk t) ∧ (PatternOk s → PatternOk t)

/-- Each OPEN frame and each RESERVED frame is held by exactly one lane, which its record names, and a lane holds as
OPEN or RESERVED no frame in another state. -/
def Obligations.EveryStepKeepsFramesHeldByOneLane : Prop :=
  ∀ s t : State, HeldOk s → step s = .next t → HeldOk t

/-- The in-flight count of each frame equals the number of FILLING slots placed in it; only an OPEN or CLOSING frame
has files in flight, and a CLOSING one has. -/
def Obligations.EveryStepKeepsInFlightCounts : Prop :=
  ∀ s t : State, HeldOk s → InFlightOk s → step s = .next t → InFlightOk t

/-- The serials of the packs in frames are pairwise distinct, and all below the next serial. The next serial never
falls and never passes 2^48, and the freeze flag once set stays, whatever the command, but for power-on reset. -/
def Obligations.SerialsRiseAndStayDistinct : Prop :=
  (∀ s t : State, SerialsOk s → step s = .next t → SerialsOk t)
    ∧ (∀ (c : Instr) (s t : State), exec c s = .next t → (∀ p, c ≠ .powerOnReset p) → s.cmd.nextSerial ≤ 2 ^ 48 →
      s.cmd.nextSerial ≤ t.cmd.nextSerial ∧ t.cmd.nextSerial ≤ 2 ^ 48 ∧ (s.cmd.frozen = true → t.cmd.frozen = true))

/-- No slot stands twice in the frame-wait queue or the lookup queue, whose slots are WAITING and in LOOKUP; and while
a slot waits no frame is FREE or RESERVED, unless the serials are exhausted. Out of ACTIVE every slot is IDLE. -/
def Obligations.EveryStepKeepsSlotQueuesInForm : Prop :=
  ∀ s t : State, HeldOk s → QueuesOk s → step s = .next t → QueuesOk t
end

