-- ==== Sys2Proof/Laws/State.lean ====
section
/-! SUPPORT. What each named update of an event changes: one lemma for each field of each update, so that no proof unfolds a
record update; and the reads of a table that an element was put into. -/

namespace Sys2Proof.Machine

@[simp] theorem get_put_same {α : Type} {n : Nat} (v : Vector α n) (i : Fin n) (x : α) : (put v i x).get i = x := by
  show (v.set i.val x i.isLt)[i.val] = x
  simp

theorem get_put_other {α : Type} {n : Nat} (v : Vector α n) (i j : Fin n) (x : α) (h : i ≠ j) :
    (put v i x).get j = v.get j := by
  show (v.set i.val x i.isLt)[j.val] = v[j.val]
  exact Vector.getElem_set_ne i.isLt j.isLt (fun e => h (Fin.ext e))

theorem get_put {α : Type} {n : Nat} (v : Vector α n) (i j : Fin n) (x : α) :
    (put v i x).get j = if i = j then x else v.get j := by
  by_cases h : i = j
  · subst h; simp
  · simp [h, get_put_other v i j x h]

/-! ### setSlot -/

@[simp] theorem Ev.setSlot_loader (e : Ev) (k : SlotNo) (x : SlotEntry) : (e.setSlot k x).loader = e.loader := rfl
@[simp] theorem Ev.setSlot_decoder (e : Ev) (k : SlotNo) (x : SlotEntry) : (e.setSlot k x).decoder = e.decoder := rfl
@[simp] theorem Ev.setSlot_port (e : Ev) (k : SlotNo) (x : SlotEntry) : (e.setSlot k x).port = e.port := rfl
@[simp] theorem Ev.setSlot_queue (e : Ev) (k : SlotNo) (x : SlotEntry) : (e.setSlot k x).queue = e.queue := rfl
@[simp] theorem Ev.setSlot_slots (e : Ev) (k : SlotNo) (x : SlotEntry) : (e.setSlot k x).slots = { table := put e.slots.table k x } := rfl
@[simp] theorem Ev.setSlot_coll (e : Ev) (k : SlotNo) (x : SlotEntry) : (e.setSlot k x).coll = e.coll := rfl
@[simp] theorem Ev.setSlot_lanes (e : Ev) (k : SlotNo) (x : SlotEntry) : (e.setSlot k x).lanes = e.lanes := rfl
@[simp] theorem Ev.setSlot_frames (e : Ev) (k : SlotNo) (x : SlotEntry) : (e.setSlot k x).frames = e.frames := rfl
@[simp] theorem Ev.setSlot_copy (e : Ev) (k : SlotNo) (x : SlotEntry) : (e.setSlot k x).copy = e.copy := rfl
@[simp] theorem Ev.setSlot_cmd (e : Ev) (k : SlotNo) (x : SlotEntry) : (e.setSlot k x).cmd = e.cmd := rfl
@[simp] theorem Ev.setSlot_notes (e : Ev) (k : SlotNo) (x : SlotEntry) : (e.setSlot k x).notes = e.notes := rfl
@[simp] theorem Ev.setSlot_attention (e : Ev) (k : SlotNo) (x : SlotEntry) : (e.setSlot k x).attention = e.attention := rfl
@[simp] theorem Ev.setSlot_linkOut (e : Ev) (k : SlotNo) (x : SlotEntry) : (e.setSlot k x).linkOut = e.linkOut := rfl
@[simp] theorem Ev.setSlot_storeOut (e : Ev) (k : SlotNo) (x : SlotEntry) : (e.setSlot k x).storeOut = e.storeOut := rfl
@[simp] theorem Ev.setSlot_configOut (e : Ev) (k : SlotNo) (x : SlotEntry) : (e.setSlot k x).configOut = e.configOut := rfl
@[simp] theorem Ev.setSlot_choice (e : Ev) (k : SlotNo) (x : SlotEntry) : (e.setSlot k x).choice = e.choice := rfl
@[simp] theorem Ev.setSlot_pending (e : Ev) (k : SlotNo) (x : SlotEntry) : (e.setSlot k x).pending = e.pending := rfl
@[simp] theorem Ev.setSlot_made (e : Ev) (k : SlotNo) (x : SlotEntry) : (e.setSlot k x).made = e.made := rfl
@[simp] theorem Ev.setSlot_posted (e : Ev) (k : SlotNo) (x : SlotEntry) : (e.setSlot k x).posted = e.posted := rfl
@[simp] theorem Ev.setSlot_reserveDue (e : Ev) (k : SlotNo) (x : SlotEntry) : (e.setSlot k x).reserveDue = e.reserveDue := rfl
@[simp] theorem Ev.setSlot_waitWasEmpty (e : Ev) (k : SlotNo) (x : SlotEntry) : (e.setSlot k x).waitWasEmpty = e.waitWasEmpty := rfl
@[simp] theorem Ev.setSlot_inOrder (e : Ev) (k : SlotNo) (x : SlotEntry) : (e.setSlot k x).inOrder = e.inOrder := rfl

/-! ### setFrame -/

@[simp] theorem Ev.setFrame_loader (e : Ev) (n : FrameNo) (x : Frame) : (e.setFrame n x).loader = e.loader := rfl
@[simp] theorem Ev.setFrame_decoder (e : Ev) (n : FrameNo) (x : Frame) : (e.setFrame n x).decoder = e.decoder := rfl
@[simp] theorem Ev.setFrame_port (e : Ev) (n : FrameNo) (x : Frame) : (e.setFrame n x).port = e.port := rfl
@[simp] theorem Ev.setFrame_queue (e : Ev) (n : FrameNo) (x : Frame) : (e.setFrame n x).queue = e.queue := rfl
@[simp] theorem Ev.setFrame_slots (e : Ev) (n : FrameNo) (x : Frame) : (e.setFrame n x).slots = e.slots := rfl
@[simp] theorem Ev.setFrame_coll (e : Ev) (n : FrameNo) (x : Frame) : (e.setFrame n x).coll = e.coll := rfl
@[simp] theorem Ev.setFrame_lanes (e : Ev) (n : FrameNo) (x : Frame) : (e.setFrame n x).lanes = e.lanes := rfl
@[simp] theorem Ev.setFrame_frames (e : Ev) (n : FrameNo) (x : Frame) : (e.setFrame n x).frames = { e.frames with table := put e.frames.table n x } := rfl
@[simp] theorem Ev.setFrame_copy (e : Ev) (n : FrameNo) (x : Frame) : (e.setFrame n x).copy = e.copy := rfl
@[simp] theorem Ev.setFrame_cmd (e : Ev) (n : FrameNo) (x : Frame) : (e.setFrame n x).cmd = e.cmd := rfl
@[simp] theorem Ev.setFrame_notes (e : Ev) (n : FrameNo) (x : Frame) : (e.setFrame n x).notes = e.notes := rfl
@[simp] theorem Ev.setFrame_attention (e : Ev) (n : FrameNo) (x : Frame) : (e.setFrame n x).attention = e.attention := rfl
@[simp] theorem Ev.setFrame_linkOut (e : Ev) (n : FrameNo) (x : Frame) : (e.setFrame n x).linkOut = e.linkOut := rfl
@[simp] theorem Ev.setFrame_storeOut (e : Ev) (n : FrameNo) (x : Frame) : (e.setFrame n x).storeOut = e.storeOut := rfl
@[simp] theorem Ev.setFrame_configOut (e : Ev) (n : FrameNo) (x : Frame) : (e.setFrame n x).configOut = e.configOut := rfl
@[simp] theorem Ev.setFrame_choice (e : Ev) (n : FrameNo) (x : Frame) : (e.setFrame n x).choice = e.choice := rfl
@[simp] theorem Ev.setFrame_pending (e : Ev) (n : FrameNo) (x : Frame) : (e.setFrame n x).pending = e.pending := rfl
@[simp] theorem Ev.setFrame_made (e : Ev) (n : FrameNo) (x : Frame) : (e.setFrame n x).made = e.made := rfl
@[simp] theorem Ev.setFrame_posted (e : Ev) (n : FrameNo) (x : Frame) : (e.setFrame n x).posted = e.posted := rfl
@[simp] theorem Ev.setFrame_reserveDue (e : Ev) (n : FrameNo) (x : Frame) : (e.setFrame n x).reserveDue = e.reserveDue := rfl
@[simp] theorem Ev.setFrame_waitWasEmpty (e : Ev) (n : FrameNo) (x : Frame) : (e.setFrame n x).waitWasEmpty = e.waitWasEmpty := rfl
@[simp] theorem Ev.setFrame_inOrder (e : Ev) (n : FrameNo) (x : Frame) : (e.setFrame n x).inOrder = e.inOrder := rfl

/-! ### setLane -/

@[simp] theorem Ev.setLane_loader (e : Ev) (l : LaneNo) (x : Lane) : (e.setLane l x).loader = e.loader := rfl
@[simp] theorem Ev.setLane_decoder (e : Ev) (l : LaneNo) (x : Lane) : (e.setLane l x).decoder = e.decoder := rfl
@[simp] theorem Ev.setLane_port (e : Ev) (l : LaneNo) (x : Lane) : (e.setLane l x).port = e.port := rfl
@[simp] theorem Ev.setLane_queue (e : Ev) (l : LaneNo) (x : Lane) : (e.setLane l x).queue = e.queue := rfl
@[simp] theorem Ev.setLane_slots (e : Ev) (l : LaneNo) (x : Lane) : (e.setLane l x).slots = e.slots := rfl
@[simp] theorem Ev.setLane_coll (e : Ev) (l : LaneNo) (x : Lane) : (e.setLane l x).coll = e.coll := rfl
@[simp] theorem Ev.setLane_lanes (e : Ev) (l : LaneNo) (x : Lane) : (e.setLane l x).lanes = { e.lanes with table := put e.lanes.table l x } := rfl
@[simp] theorem Ev.setLane_frames (e : Ev) (l : LaneNo) (x : Lane) : (e.setLane l x).frames = e.frames := rfl
@[simp] theorem Ev.setLane_copy (e : Ev) (l : LaneNo) (x : Lane) : (e.setLane l x).copy = e.copy := rfl
@[simp] theorem Ev.setLane_cmd (e : Ev) (l : LaneNo) (x : Lane) : (e.setLane l x).cmd = e.cmd := rfl
@[simp] theorem Ev.setLane_notes (e : Ev) (l : LaneNo) (x : Lane) : (e.setLane l x).notes = e.notes := rfl
@[simp] theorem Ev.setLane_attention (e : Ev) (l : LaneNo) (x : Lane) : (e.setLane l x).attention = e.attention := rfl
@[simp] theorem Ev.setLane_linkOut (e : Ev) (l : LaneNo) (x : Lane) : (e.setLane l x).linkOut = e.linkOut := rfl
@[simp] theorem Ev.setLane_storeOut (e : Ev) (l : LaneNo) (x : Lane) : (e.setLane l x).storeOut = e.storeOut := rfl
@[simp] theorem Ev.setLane_configOut (e : Ev) (l : LaneNo) (x : Lane) : (e.setLane l x).configOut = e.configOut := rfl
@[simp] theorem Ev.setLane_choice (e : Ev) (l : LaneNo) (x : Lane) : (e.setLane l x).choice = e.choice := rfl
@[simp] theorem Ev.setLane_pending (e : Ev) (l : LaneNo) (x : Lane) : (e.setLane l x).pending = e.pending := rfl
@[simp] theorem Ev.setLane_made (e : Ev) (l : LaneNo) (x : Lane) : (e.setLane l x).made = e.made := rfl
@[simp] theorem Ev.setLane_posted (e : Ev) (l : LaneNo) (x : Lane) : (e.setLane l x).posted = e.posted := rfl
@[simp] theorem Ev.setLane_reserveDue (e : Ev) (l : LaneNo) (x : Lane) : (e.setLane l x).reserveDue = e.reserveDue := rfl
@[simp] theorem Ev.setLane_waitWasEmpty (e : Ev) (l : LaneNo) (x : Lane) : (e.setLane l x).waitWasEmpty = e.waitWasEmpty := rfl
@[simp] theorem Ev.setLane_inOrder (e : Ev) (l : LaneNo) (x : Lane) : (e.setLane l x).inOrder = e.inOrder := rfl

/-! ### setWaitQ -/

@[simp] theorem Ev.setWaitQ_loader (e : Ev) (x : List SlotNo) : (e.setWaitQ x).loader = e.loader := rfl
@[simp] theorem Ev.setWaitQ_decoder (e : Ev) (x : List SlotNo) : (e.setWaitQ x).decoder = e.decoder := rfl
@[simp] theorem Ev.setWaitQ_port (e : Ev) (x : List SlotNo) : (e.setWaitQ x).port = e.port := rfl
@[simp] theorem Ev.setWaitQ_queue (e : Ev) (x : List SlotNo) : (e.setWaitQ x).queue = e.queue := rfl
@[simp] theorem Ev.setWaitQ_slots (e : Ev) (x : List SlotNo) : (e.setWaitQ x).slots = e.slots := rfl
@[simp] theorem Ev.setWaitQ_coll (e : Ev) (x : List SlotNo) : (e.setWaitQ x).coll = e.coll := rfl
@[simp] theorem Ev.setWaitQ_lanes (e : Ev) (x : List SlotNo) : (e.setWaitQ x).lanes = e.lanes := rfl
@[simp] theorem Ev.setWaitQ_frames (e : Ev) (x : List SlotNo) : (e.setWaitQ x).frames = { e.frames with waitQ := x } := rfl
@[simp] theorem Ev.setWaitQ_copy (e : Ev) (x : List SlotNo) : (e.setWaitQ x).copy = e.copy := rfl
@[simp] theorem Ev.setWaitQ_cmd (e : Ev) (x : List SlotNo) : (e.setWaitQ x).cmd = e.cmd := rfl
@[simp] theorem Ev.setWaitQ_notes (e : Ev) (x : List SlotNo) : (e.setWaitQ x).notes = e.notes := rfl
@[simp] theorem Ev.setWaitQ_attention (e : Ev) (x : List SlotNo) : (e.setWaitQ x).attention = e.attention := rfl
@[simp] theorem Ev.setWaitQ_linkOut (e : Ev) (x : List SlotNo) : (e.setWaitQ x).linkOut = e.linkOut := rfl
@[simp] theorem Ev.setWaitQ_storeOut (e : Ev) (x : List SlotNo) : (e.setWaitQ x).storeOut = e.storeOut := rfl
@[simp] theorem Ev.setWaitQ_configOut (e : Ev) (x : List SlotNo) : (e.setWaitQ x).configOut = e.configOut := rfl
@[simp] theorem Ev.setWaitQ_choice (e : Ev) (x : List SlotNo) : (e.setWaitQ x).choice = e.choice := rfl
@[simp] theorem Ev.setWaitQ_pending (e : Ev) (x : List SlotNo) : (e.setWaitQ x).pending = e.pending := rfl
@[simp] theorem Ev.setWaitQ_made (e : Ev) (x : List SlotNo) : (e.setWaitQ x).made = e.made := rfl
@[simp] theorem Ev.setWaitQ_posted (e : Ev) (x : List SlotNo) : (e.setWaitQ x).posted = e.posted := rfl
@[simp] theorem Ev.setWaitQ_reserveDue (e : Ev) (x : List SlotNo) : (e.setWaitQ x).reserveDue = e.reserveDue := rfl
@[simp] theorem Ev.setWaitQ_waitWasEmpty (e : Ev) (x : List SlotNo) : (e.setWaitQ x).waitWasEmpty = e.waitWasEmpty := rfl
@[simp] theorem Ev.setWaitQ_inOrder (e : Ev) (x : List SlotNo) : (e.setWaitQ x).inOrder = e.inOrder := rfl

/-! ### setLookupQ -/

@[simp] theorem Ev.setLookupQ_loader (e : Ev) (x : List SlotNo) : (e.setLookupQ x).loader = e.loader := rfl
@[simp] theorem Ev.setLookupQ_decoder (e : Ev) (x : List SlotNo) : (e.setLookupQ x).decoder = e.decoder := rfl
@[simp] theorem Ev.setLookupQ_port (e : Ev) (x : List SlotNo) : (e.setLookupQ x).port = e.port := rfl
@[simp] theorem Ev.setLookupQ_queue (e : Ev) (x : List SlotNo) : (e.setLookupQ x).queue = e.queue := rfl
@[simp] theorem Ev.setLookupQ_slots (e : Ev) (x : List SlotNo) : (e.setLookupQ x).slots = e.slots := rfl
@[simp] theorem Ev.setLookupQ_coll (e : Ev) (x : List SlotNo) : (e.setLookupQ x).coll = { e.coll with lookupQ := x } := rfl
@[simp] theorem Ev.setLookupQ_lanes (e : Ev) (x : List SlotNo) : (e.setLookupQ x).lanes = e.lanes := rfl
@[simp] theorem Ev.setLookupQ_frames (e : Ev) (x : List SlotNo) : (e.setLookupQ x).frames = e.frames := rfl
@[simp] theorem Ev.setLookupQ_copy (e : Ev) (x : List SlotNo) : (e.setLookupQ x).copy = e.copy := rfl
@[simp] theorem Ev.setLookupQ_cmd (e : Ev) (x : List SlotNo) : (e.setLookupQ x).cmd = e.cmd := rfl
@[simp] theorem Ev.setLookupQ_notes (e : Ev) (x : List SlotNo) : (e.setLookupQ x).notes = e.notes := rfl
@[simp] theorem Ev.setLookupQ_attention (e : Ev) (x : List SlotNo) : (e.setLookupQ x).attention = e.attention := rfl
@[simp] theorem Ev.setLookupQ_linkOut (e : Ev) (x : List SlotNo) : (e.setLookupQ x).linkOut = e.linkOut := rfl
@[simp] theorem Ev.setLookupQ_storeOut (e : Ev) (x : List SlotNo) : (e.setLookupQ x).storeOut = e.storeOut := rfl
@[simp] theorem Ev.setLookupQ_configOut (e : Ev) (x : List SlotNo) : (e.setLookupQ x).configOut = e.configOut := rfl
@[simp] theorem Ev.setLookupQ_choice (e : Ev) (x : List SlotNo) : (e.setLookupQ x).choice = e.choice := rfl
@[simp] theorem Ev.setLookupQ_pending (e : Ev) (x : List SlotNo) : (e.setLookupQ x).pending = e.pending := rfl
@[simp] theorem Ev.setLookupQ_made (e : Ev) (x : List SlotNo) : (e.setLookupQ x).made = e.made := rfl
@[simp] theorem Ev.setLookupQ_posted (e : Ev) (x : List SlotNo) : (e.setLookupQ x).posted = e.posted := rfl
@[simp] theorem Ev.setLookupQ_reserveDue (e : Ev) (x : List SlotNo) : (e.setLookupQ x).reserveDue = e.reserveDue := rfl
@[simp] theorem Ev.setLookupQ_waitWasEmpty (e : Ev) (x : List SlotNo) : (e.setLookupQ x).waitWasEmpty = e.waitWasEmpty := rfl
@[simp] theorem Ev.setLookupQ_inOrder (e : Ev) (x : List SlotNo) : (e.setLookupQ x).inOrder = e.inOrder := rfl

/-! ### setSearch -/

@[simp] theorem Ev.setSearch_loader (e : Ev) (x : Option Search) : (e.setSearch x).loader = e.loader := rfl
@[simp] theorem Ev.setSearch_decoder (e : Ev) (x : Option Search) : (e.setSearch x).decoder = e.decoder := rfl
@[simp] theorem Ev.setSearch_port (e : Ev) (x : Option Search) : (e.setSearch x).port = e.port := rfl
@[simp] theorem Ev.setSearch_queue (e : Ev) (x : Option Search) : (e.setSearch x).queue = e.queue := rfl
@[simp] theorem Ev.setSearch_slots (e : Ev) (x : Option Search) : (e.setSearch x).slots = e.slots := rfl
@[simp] theorem Ev.setSearch_coll (e : Ev) (x : Option Search) : (e.setSearch x).coll = { e.coll with search := x } := rfl
@[simp] theorem Ev.setSearch_lanes (e : Ev) (x : Option Search) : (e.setSearch x).lanes = e.lanes := rfl
@[simp] theorem Ev.setSearch_frames (e : Ev) (x : Option Search) : (e.setSearch x).frames = e.frames := rfl
@[simp] theorem Ev.setSearch_copy (e : Ev) (x : Option Search) : (e.setSearch x).copy = e.copy := rfl
@[simp] theorem Ev.setSearch_cmd (e : Ev) (x : Option Search) : (e.setSearch x).cmd = e.cmd := rfl
@[simp] theorem Ev.setSearch_notes (e : Ev) (x : Option Search) : (e.setSearch x).notes = e.notes := rfl
@[simp] theorem Ev.setSearch_attention (e : Ev) (x : Option Search) : (e.setSearch x).attention = e.attention := rfl
@[simp] theorem Ev.setSearch_linkOut (e : Ev) (x : Option Search) : (e.setSearch x).linkOut = e.linkOut := rfl
@[simp] theorem Ev.setSearch_storeOut (e : Ev) (x : Option Search) : (e.setSearch x).storeOut = e.storeOut := rfl
@[simp] theorem Ev.setSearch_configOut (e : Ev) (x : Option Search) : (e.setSearch x).configOut = e.configOut := rfl
@[simp] theorem Ev.setSearch_choice (e : Ev) (x : Option Search) : (e.setSearch x).choice = e.choice := rfl
@[simp] theorem Ev.setSearch_pending (e : Ev) (x : Option Search) : (e.setSearch x).pending = e.pending := rfl
@[simp] theorem Ev.setSearch_made (e : Ev) (x : Option Search) : (e.setSearch x).made = e.made := rfl
@[simp] theorem Ev.setSearch_posted (e : Ev) (x : Option Search) : (e.setSearch x).posted = e.posted := rfl
@[simp] theorem Ev.setSearch_reserveDue (e : Ev) (x : Option Search) : (e.setSearch x).reserveDue = e.reserveDue := rfl
@[simp] theorem Ev.setSearch_waitWasEmpty (e : Ev) (x : Option Search) : (e.setSearch x).waitWasEmpty = e.waitWasEmpty := rfl
@[simp] theorem Ev.setSearch_inOrder (e : Ev) (x : Option Search) : (e.setSearch x).inOrder = e.inOrder := rfl

/-! ### setEntries -/

@[simp] theorem Ev.setEntries_loader (e : Ev) (x : List CollEntry) : (e.setEntries x).loader = e.loader := rfl
@[simp] theorem Ev.setEntries_decoder (e : Ev) (x : List CollEntry) : (e.setEntries x).decoder = e.decoder := rfl
@[simp] theorem Ev.setEntries_port (e : Ev) (x : List CollEntry) : (e.setEntries x).port = e.port := rfl
@[simp] theorem Ev.setEntries_queue (e : Ev) (x : List CollEntry) : (e.setEntries x).queue = e.queue := rfl
@[simp] theorem Ev.setEntries_slots (e : Ev) (x : List CollEntry) : (e.setEntries x).slots = e.slots := rfl
@[simp] theorem Ev.setEntries_coll (e : Ev) (x : List CollEntry) : (e.setEntries x).coll = { e.coll with entries := x } := rfl
@[simp] theorem Ev.setEntries_lanes (e : Ev) (x : List CollEntry) : (e.setEntries x).lanes = e.lanes := rfl
@[simp] theorem Ev.setEntries_frames (e : Ev) (x : List CollEntry) : (e.setEntries x).frames = e.frames := rfl
@[simp] theorem Ev.setEntries_copy (e : Ev) (x : List CollEntry) : (e.setEntries x).copy = e.copy := rfl
@[simp] theorem Ev.setEntries_cmd (e : Ev) (x : List CollEntry) : (e.setEntries x).cmd = e.cmd := rfl
@[simp] theorem Ev.setEntries_notes (e : Ev) (x : List CollEntry) : (e.setEntries x).notes = e.notes := rfl
@[simp] theorem Ev.setEntries_attention (e : Ev) (x : List CollEntry) : (e.setEntries x).attention = e.attention := rfl
@[simp] theorem Ev.setEntries_linkOut (e : Ev) (x : List CollEntry) : (e.setEntries x).linkOut = e.linkOut := rfl
@[simp] theorem Ev.setEntries_storeOut (e : Ev) (x : List CollEntry) : (e.setEntries x).storeOut = e.storeOut := rfl
@[simp] theorem Ev.setEntries_configOut (e : Ev) (x : List CollEntry) : (e.setEntries x).configOut = e.configOut := rfl
@[simp] theorem Ev.setEntries_choice (e : Ev) (x : List CollEntry) : (e.setEntries x).choice = e.choice := rfl
@[simp] theorem Ev.setEntries_pending (e : Ev) (x : List CollEntry) : (e.setEntries x).pending = e.pending := rfl
@[simp] theorem Ev.setEntries_made (e : Ev) (x : List CollEntry) : (e.setEntries x).made = e.made := rfl
@[simp] theorem Ev.setEntries_posted (e : Ev) (x : List CollEntry) : (e.setEntries x).posted = e.posted := rfl
@[simp] theorem Ev.setEntries_reserveDue (e : Ev) (x : List CollEntry) : (e.setEntries x).reserveDue = e.reserveDue := rfl
@[simp] theorem Ev.setEntries_waitWasEmpty (e : Ev) (x : List CollEntry) : (e.setEntries x).waitWasEmpty = e.waitWasEmpty := rfl
@[simp] theorem Ev.setEntries_inOrder (e : Ev) (x : List CollEntry) : (e.setEntries x).inOrder = e.inOrder := rfl

/-! ### setCopy -/

@[simp] theorem Ev.setCopy_loader (e : Ev) (x : CopyUnit) : (e.setCopy x).loader = e.loader := rfl
@[simp] theorem Ev.setCopy_decoder (e : Ev) (x : CopyUnit) : (e.setCopy x).decoder = e.decoder := rfl
@[simp] theorem Ev.setCopy_port (e : Ev) (x : CopyUnit) : (e.setCopy x).port = e.port := rfl
@[simp] theorem Ev.setCopy_queue (e : Ev) (x : CopyUnit) : (e.setCopy x).queue = e.queue := rfl
@[simp] theorem Ev.setCopy_slots (e : Ev) (x : CopyUnit) : (e.setCopy x).slots = e.slots := rfl
@[simp] theorem Ev.setCopy_coll (e : Ev) (x : CopyUnit) : (e.setCopy x).coll = e.coll := rfl
@[simp] theorem Ev.setCopy_lanes (e : Ev) (x : CopyUnit) : (e.setCopy x).lanes = e.lanes := rfl
@[simp] theorem Ev.setCopy_frames (e : Ev) (x : CopyUnit) : (e.setCopy x).frames = e.frames := rfl
@[simp] theorem Ev.setCopy_copy (e : Ev) (x : CopyUnit) : (e.setCopy x).copy = x := rfl
@[simp] theorem Ev.setCopy_cmd (e : Ev) (x : CopyUnit) : (e.setCopy x).cmd = e.cmd := rfl
@[simp] theorem Ev.setCopy_notes (e : Ev) (x : CopyUnit) : (e.setCopy x).notes = e.notes := rfl
@[simp] theorem Ev.setCopy_attention (e : Ev) (x : CopyUnit) : (e.setCopy x).attention = e.attention := rfl
@[simp] theorem Ev.setCopy_linkOut (e : Ev) (x : CopyUnit) : (e.setCopy x).linkOut = e.linkOut := rfl
@[simp] theorem Ev.setCopy_storeOut (e : Ev) (x : CopyUnit) : (e.setCopy x).storeOut = e.storeOut := rfl
@[simp] theorem Ev.setCopy_configOut (e : Ev) (x : CopyUnit) : (e.setCopy x).configOut = e.configOut := rfl
@[simp] theorem Ev.setCopy_choice (e : Ev) (x : CopyUnit) : (e.setCopy x).choice = e.choice := rfl
@[simp] theorem Ev.setCopy_pending (e : Ev) (x : CopyUnit) : (e.setCopy x).pending = e.pending := rfl
@[simp] theorem Ev.setCopy_made (e : Ev) (x : CopyUnit) : (e.setCopy x).made = e.made := rfl
@[simp] theorem Ev.setCopy_posted (e : Ev) (x : CopyUnit) : (e.setCopy x).posted = e.posted := rfl
@[simp] theorem Ev.setCopy_reserveDue (e : Ev) (x : CopyUnit) : (e.setCopy x).reserveDue = e.reserveDue := rfl
@[simp] theorem Ev.setCopy_waitWasEmpty (e : Ev) (x : CopyUnit) : (e.setCopy x).waitWasEmpty = e.waitWasEmpty := rfl
@[simp] theorem Ev.setCopy_inOrder (e : Ev) (x : CopyUnit) : (e.setCopy x).inOrder = e.inOrder := rfl

/-! ### setCmd -/

@[simp] theorem Ev.setCmd_loader (e : Ev) (x : CommandUnit) : (e.setCmd x).loader = e.loader := rfl
@[simp] theorem Ev.setCmd_decoder (e : Ev) (x : CommandUnit) : (e.setCmd x).decoder = e.decoder := rfl
@[simp] theorem Ev.setCmd_port (e : Ev) (x : CommandUnit) : (e.setCmd x).port = e.port := rfl
@[simp] theorem Ev.setCmd_queue (e : Ev) (x : CommandUnit) : (e.setCmd x).queue = e.queue := rfl
@[simp] theorem Ev.setCmd_slots (e : Ev) (x : CommandUnit) : (e.setCmd x).slots = e.slots := rfl
@[simp] theorem Ev.setCmd_coll (e : Ev) (x : CommandUnit) : (e.setCmd x).coll = e.coll := rfl
@[simp] theorem Ev.setCmd_lanes (e : Ev) (x : CommandUnit) : (e.setCmd x).lanes = e.lanes := rfl
@[simp] theorem Ev.setCmd_frames (e : Ev) (x : CommandUnit) : (e.setCmd x).frames = e.frames := rfl
@[simp] theorem Ev.setCmd_copy (e : Ev) (x : CommandUnit) : (e.setCmd x).copy = e.copy := rfl
@[simp] theorem Ev.setCmd_cmd (e : Ev) (x : CommandUnit) : (e.setCmd x).cmd = x := rfl
@[simp] theorem Ev.setCmd_notes (e : Ev) (x : CommandUnit) : (e.setCmd x).notes = e.notes := rfl
@[simp] theorem Ev.setCmd_attention (e : Ev) (x : CommandUnit) : (e.setCmd x).attention = e.attention := rfl
@[simp] theorem Ev.setCmd_linkOut (e : Ev) (x : CommandUnit) : (e.setCmd x).linkOut = e.linkOut := rfl
@[simp] theorem Ev.setCmd_storeOut (e : Ev) (x : CommandUnit) : (e.setCmd x).storeOut = e.storeOut := rfl
@[simp] theorem Ev.setCmd_configOut (e : Ev) (x : CommandUnit) : (e.setCmd x).configOut = e.configOut := rfl
@[simp] theorem Ev.setCmd_choice (e : Ev) (x : CommandUnit) : (e.setCmd x).choice = e.choice := rfl
@[simp] theorem Ev.setCmd_pending (e : Ev) (x : CommandUnit) : (e.setCmd x).pending = e.pending := rfl
@[simp] theorem Ev.setCmd_made (e : Ev) (x : CommandUnit) : (e.setCmd x).made = e.made := rfl
@[simp] theorem Ev.setCmd_posted (e : Ev) (x : CommandUnit) : (e.setCmd x).posted = e.posted := rfl
@[simp] theorem Ev.setCmd_reserveDue (e : Ev) (x : CommandUnit) : (e.setCmd x).reserveDue = e.reserveDue := rfl
@[simp] theorem Ev.setCmd_waitWasEmpty (e : Ev) (x : CommandUnit) : (e.setCmd x).waitWasEmpty = e.waitWasEmpty := rfl
@[simp] theorem Ev.setCmd_inOrder (e : Ev) (x : CommandUnit) : (e.setCmd x).inOrder = e.inOrder := rfl

/-! ### setNotes -/

@[simp] theorem Ev.setNotes_loader (e : Ev) (x : NoticeUnit) : (e.setNotes x).loader = e.loader := rfl
@[simp] theorem Ev.setNotes_decoder (e : Ev) (x : NoticeUnit) : (e.setNotes x).decoder = e.decoder := rfl
@[simp] theorem Ev.setNotes_port (e : Ev) (x : NoticeUnit) : (e.setNotes x).port = e.port := rfl
@[simp] theorem Ev.setNotes_queue (e : Ev) (x : NoticeUnit) : (e.setNotes x).queue = e.queue := rfl
@[simp] theorem Ev.setNotes_slots (e : Ev) (x : NoticeUnit) : (e.setNotes x).slots = e.slots := rfl
@[simp] theorem Ev.setNotes_coll (e : Ev) (x : NoticeUnit) : (e.setNotes x).coll = e.coll := rfl
@[simp] theorem Ev.setNotes_lanes (e : Ev) (x : NoticeUnit) : (e.setNotes x).lanes = e.lanes := rfl
@[simp] theorem Ev.setNotes_frames (e : Ev) (x : NoticeUnit) : (e.setNotes x).frames = e.frames := rfl
@[simp] theorem Ev.setNotes_copy (e : Ev) (x : NoticeUnit) : (e.setNotes x).copy = e.copy := rfl
@[simp] theorem Ev.setNotes_cmd (e : Ev) (x : NoticeUnit) : (e.setNotes x).cmd = e.cmd := rfl
@[simp] theorem Ev.setNotes_notes (e : Ev) (x : NoticeUnit) : (e.setNotes x).notes = x := rfl
@[simp] theorem Ev.setNotes_attention (e : Ev) (x : NoticeUnit) : (e.setNotes x).attention = e.attention := rfl
@[simp] theorem Ev.setNotes_linkOut (e : Ev) (x : NoticeUnit) : (e.setNotes x).linkOut = e.linkOut := rfl
@[simp] theorem Ev.setNotes_storeOut (e : Ev) (x : NoticeUnit) : (e.setNotes x).storeOut = e.storeOut := rfl
@[simp] theorem Ev.setNotes_configOut (e : Ev) (x : NoticeUnit) : (e.setNotes x).configOut = e.configOut := rfl
@[simp] theorem Ev.setNotes_choice (e : Ev) (x : NoticeUnit) : (e.setNotes x).choice = e.choice := rfl
@[simp] theorem Ev.setNotes_pending (e : Ev) (x : NoticeUnit) : (e.setNotes x).pending = e.pending := rfl
@[simp] theorem Ev.setNotes_made (e : Ev) (x : NoticeUnit) : (e.setNotes x).made = e.made := rfl
@[simp] theorem Ev.setNotes_posted (e : Ev) (x : NoticeUnit) : (e.setNotes x).posted = e.posted := rfl
@[simp] theorem Ev.setNotes_reserveDue (e : Ev) (x : NoticeUnit) : (e.setNotes x).reserveDue = e.reserveDue := rfl
@[simp] theorem Ev.setNotes_waitWasEmpty (e : Ev) (x : NoticeUnit) : (e.setNotes x).waitWasEmpty = e.waitWasEmpty := rfl
@[simp] theorem Ev.setNotes_inOrder (e : Ev) (x : NoticeUnit) : (e.setNotes x).inOrder = e.inOrder := rfl

/-! ### setQueue -/

@[simp] theorem Ev.setQueue_loader (e : Ev) (x : StoreQueue) : (e.setQueue x).loader = e.loader := rfl
@[simp] theorem Ev.setQueue_decoder (e : Ev) (x : StoreQueue) : (e.setQueue x).decoder = e.decoder := rfl
@[simp] theorem Ev.setQueue_port (e : Ev) (x : StoreQueue) : (e.setQueue x).port = e.port := rfl
@[simp] theorem Ev.setQueue_queue (e : Ev) (x : StoreQueue) : (e.setQueue x).queue = x := rfl
@[simp] theorem Ev.setQueue_slots (e : Ev) (x : StoreQueue) : (e.setQueue x).slots = e.slots := rfl
@[simp] theorem Ev.setQueue_coll (e : Ev) (x : StoreQueue) : (e.setQueue x).coll = e.coll := rfl
@[simp] theorem Ev.setQueue_lanes (e : Ev) (x : StoreQueue) : (e.setQueue x).lanes = e.lanes := rfl
@[simp] theorem Ev.setQueue_frames (e : Ev) (x : StoreQueue) : (e.setQueue x).frames = e.frames := rfl
@[simp] theorem Ev.setQueue_copy (e : Ev) (x : StoreQueue) : (e.setQueue x).copy = e.copy := rfl
@[simp] theorem Ev.setQueue_cmd (e : Ev) (x : StoreQueue) : (e.setQueue x).cmd = e.cmd := rfl
@[simp] theorem Ev.setQueue_notes (e : Ev) (x : StoreQueue) : (e.setQueue x).notes = e.notes := rfl
@[simp] theorem Ev.setQueue_attention (e : Ev) (x : StoreQueue) : (e.setQueue x).attention = e.attention := rfl
@[simp] theorem Ev.setQueue_linkOut (e : Ev) (x : StoreQueue) : (e.setQueue x).linkOut = e.linkOut := rfl
@[simp] theorem Ev.setQueue_storeOut (e : Ev) (x : StoreQueue) : (e.setQueue x).storeOut = e.storeOut := rfl
@[simp] theorem Ev.setQueue_configOut (e : Ev) (x : StoreQueue) : (e.setQueue x).configOut = e.configOut := rfl
@[simp] theorem Ev.setQueue_choice (e : Ev) (x : StoreQueue) : (e.setQueue x).choice = e.choice := rfl
@[simp] theorem Ev.setQueue_pending (e : Ev) (x : StoreQueue) : (e.setQueue x).pending = e.pending := rfl
@[simp] theorem Ev.setQueue_made (e : Ev) (x : StoreQueue) : (e.setQueue x).made = e.made := rfl
@[simp] theorem Ev.setQueue_posted (e : Ev) (x : StoreQueue) : (e.setQueue x).posted = e.posted := rfl
@[simp] theorem Ev.setQueue_reserveDue (e : Ev) (x : StoreQueue) : (e.setQueue x).reserveDue = e.reserveDue := rfl
@[simp] theorem Ev.setQueue_waitWasEmpty (e : Ev) (x : StoreQueue) : (e.setQueue x).waitWasEmpty = e.waitWasEmpty := rfl
@[simp] theorem Ev.setQueue_inOrder (e : Ev) (x : StoreQueue) : (e.setQueue x).inOrder = e.inOrder := rfl

/-! ### setPort -/

@[simp] theorem Ev.setPort_loader (e : Ev) (x : Port) : (e.setPort x).loader = e.loader := rfl
@[simp] theorem Ev.setPort_decoder (e : Ev) (x : Port) : (e.setPort x).decoder = e.decoder := rfl
@[simp] theorem Ev.setPort_port (e : Ev) (x : Port) : (e.setPort x).port = x := rfl
@[simp] theorem Ev.setPort_queue (e : Ev) (x : Port) : (e.setPort x).queue = e.queue := rfl
@[simp] theorem Ev.setPort_slots (e : Ev) (x : Port) : (e.setPort x).slots = e.slots := rfl
@[simp] theorem Ev.setPort_coll (e : Ev) (x : Port) : (e.setPort x).coll = e.coll := rfl
@[simp] theorem Ev.setPort_lanes (e : Ev) (x : Port) : (e.setPort x).lanes = e.lanes := rfl
@[simp] theorem Ev.setPort_frames (e : Ev) (x : Port) : (e.setPort x).frames = e.frames := rfl
@[simp] theorem Ev.setPort_copy (e : Ev) (x : Port) : (e.setPort x).copy = e.copy := rfl
@[simp] theorem Ev.setPort_cmd (e : Ev) (x : Port) : (e.setPort x).cmd = e.cmd := rfl
@[simp] theorem Ev.setPort_notes (e : Ev) (x : Port) : (e.setPort x).notes = e.notes := rfl
@[simp] theorem Ev.setPort_attention (e : Ev) (x : Port) : (e.setPort x).attention = e.attention := rfl
@[simp] theorem Ev.setPort_linkOut (e : Ev) (x : Port) : (e.setPort x).linkOut = e.linkOut := rfl
@[simp] theorem Ev.setPort_storeOut (e : Ev) (x : Port) : (e.setPort x).storeOut = e.storeOut := rfl
@[simp] theorem Ev.setPort_configOut (e : Ev) (x : Port) : (e.setPort x).configOut = e.configOut := rfl
@[simp] theorem Ev.setPort_choice (e : Ev) (x : Port) : (e.setPort x).choice = e.choice := rfl
@[simp] theorem Ev.setPort_pending (e : Ev) (x : Port) : (e.setPort x).pending = e.pending := rfl
@[simp] theorem Ev.setPort_made (e : Ev) (x : Port) : (e.setPort x).made = e.made := rfl
@[simp] theorem Ev.setPort_posted (e : Ev) (x : Port) : (e.setPort x).posted = e.posted := rfl
@[simp] theorem Ev.setPort_reserveDue (e : Ev) (x : Port) : (e.setPort x).reserveDue = e.reserveDue := rfl
@[simp] theorem Ev.setPort_waitWasEmpty (e : Ev) (x : Port) : (e.setPort x).waitWasEmpty = e.waitWasEmpty := rfl
@[simp] theorem Ev.setPort_inOrder (e : Ev) (x : Port) : (e.setPort x).inOrder = e.inOrder := rfl

/-! ### hold -/

@[simp] theorem Ev.hold_loader (e : Ev) (w : OwnWrite) : (e.hold w).loader = e.loader := rfl
@[simp] theorem Ev.hold_decoder (e : Ev) (w : OwnWrite) : (e.hold w).decoder = e.decoder := rfl
@[simp] theorem Ev.hold_port (e : Ev) (w : OwnWrite) : (e.hold w).port = e.port := rfl
@[simp] theorem Ev.hold_queue (e : Ev) (w : OwnWrite) : (e.hold w).queue = e.queue := rfl
@[simp] theorem Ev.hold_slots (e : Ev) (w : OwnWrite) : (e.hold w).slots = e.slots := rfl
@[simp] theorem Ev.hold_coll (e : Ev) (w : OwnWrite) : (e.hold w).coll = e.coll := rfl
@[simp] theorem Ev.hold_lanes (e : Ev) (w : OwnWrite) : (e.hold w).lanes = e.lanes := rfl
@[simp] theorem Ev.hold_frames (e : Ev) (w : OwnWrite) : (e.hold w).frames = e.frames := rfl
@[simp] theorem Ev.hold_copy (e : Ev) (w : OwnWrite) : (e.hold w).copy = e.copy := rfl
@[simp] theorem Ev.hold_cmd (e : Ev) (w : OwnWrite) : (e.hold w).cmd = e.cmd := rfl
@[simp] theorem Ev.hold_notes (e : Ev) (w : OwnWrite) : (e.hold w).notes = e.notes := rfl
@[simp] theorem Ev.hold_attention (e : Ev) (w : OwnWrite) : (e.hold w).attention = e.attention := rfl
@[simp] theorem Ev.hold_linkOut (e : Ev) (w : OwnWrite) : (e.hold w).linkOut = e.linkOut := rfl
@[simp] theorem Ev.hold_storeOut (e : Ev) (w : OwnWrite) : (e.hold w).storeOut = e.storeOut := rfl
@[simp] theorem Ev.hold_configOut (e : Ev) (w : OwnWrite) : (e.hold w).configOut = e.configOut := rfl
@[simp] theorem Ev.hold_choice (e : Ev) (w : OwnWrite) : (e.hold w).choice = e.choice := rfl
@[simp] theorem Ev.hold_pending (e : Ev) (w : OwnWrite) : (e.hold w).pending = e.pending := rfl
@[simp] theorem Ev.hold_made (e : Ev) (w : OwnWrite) : (e.hold w).made = e.made ++ [w] := rfl
@[simp] theorem Ev.hold_posted (e : Ev) (w : OwnWrite) : (e.hold w).posted = e.posted := rfl
@[simp] theorem Ev.hold_reserveDue (e : Ev) (w : OwnWrite) : (e.hold w).reserveDue = e.reserveDue := rfl
@[simp] theorem Ev.hold_waitWasEmpty (e : Ev) (w : OwnWrite) : (e.hold w).waitWasEmpty = e.waitWasEmpty := rfl
@[simp] theorem Ev.hold_inOrder (e : Ev) (w : OwnWrite) : (e.hold w).inOrder = e.inOrder := rfl

/-! ### answer -/

@[simp] theorem Ev.answer_loader (e : Ev) (r : Requester) (a : Answer) : (e.answer r a).loader = e.loader := rfl
@[simp] theorem Ev.answer_decoder (e : Ev) (r : Requester) (a : Answer) : (e.answer r a).decoder = e.decoder := rfl
@[simp] theorem Ev.answer_port (e : Ev) (r : Requester) (a : Answer) : (e.answer r a).port = e.port := rfl
@[simp] theorem Ev.answer_queue (e : Ev) (r : Requester) (a : Answer) : (e.answer r a).queue = e.queue := rfl
@[simp] theorem Ev.answer_slots (e : Ev) (r : Requester) (a : Answer) : (e.answer r a).slots = e.slots := rfl
@[simp] theorem Ev.answer_coll (e : Ev) (r : Requester) (a : Answer) : (e.answer r a).coll = e.coll := rfl
@[simp] theorem Ev.answer_lanes (e : Ev) (r : Requester) (a : Answer) : (e.answer r a).lanes = e.lanes := rfl
@[simp] theorem Ev.answer_frames (e : Ev) (r : Requester) (a : Answer) : (e.answer r a).frames = e.frames := rfl
@[simp] theorem Ev.answer_copy (e : Ev) (r : Requester) (a : Answer) : (e.answer r a).copy = e.copy := rfl
@[simp] theorem Ev.answer_cmd (e : Ev) (r : Requester) (a : Answer) : (e.answer r a).cmd = e.cmd := rfl
@[simp] theorem Ev.answer_notes (e : Ev) (r : Requester) (a : Answer) : (e.answer r a).notes = e.notes := rfl
@[simp] theorem Ev.answer_attention (e : Ev) (r : Requester) (a : Answer) : (e.answer r a).attention = e.attention := rfl
@[simp] theorem Ev.answer_linkOut (e : Ev) (r : Requester) (a : Answer) : (e.answer r a).linkOut = e.linkOut ++ [{ r := r, answer := a }] := rfl
@[simp] theorem Ev.answer_storeOut (e : Ev) (r : Requester) (a : Answer) : (e.answer r a).storeOut = e.storeOut := rfl
@[simp] theorem Ev.answer_configOut (e : Ev) (r : Requester) (a : Answer) : (e.answer r a).configOut = e.configOut := rfl
@[simp] theorem Ev.answer_choice (e : Ev) (r : Requester) (a : Answer) : (e.answer r a).choice = e.choice := rfl
@[simp] theorem Ev.answer_pending (e : Ev) (r : Requester) (a : Answer) : (e.answer r a).pending = e.pending := rfl
@[simp] theorem Ev.answer_made (e : Ev) (r : Requester) (a : Answer) : (e.answer r a).made = e.made := rfl
@[simp] theorem Ev.answer_posted (e : Ev) (r : Requester) (a : Answer) : (e.answer r a).posted = e.posted := rfl
@[simp] theorem Ev.answer_reserveDue (e : Ev) (r : Requester) (a : Answer) : (e.answer r a).reserveDue = e.reserveDue := rfl
@[simp] theorem Ev.answer_waitWasEmpty (e : Ev) (r : Requester) (a : Answer) : (e.answer r a).waitWasEmpty = e.waitWasEmpty := rfl
@[simp] theorem Ev.answer_inOrder (e : Ev) (r : Requester) (a : Answer) : (e.answer r a).inOrder = e.inOrder := rfl

/-! ### send -/

@[simp] theorem Ev.send_loader (e : Ev) (q : StoreRequest) : (e.send q).loader = e.loader := rfl
@[simp] theorem Ev.send_decoder (e : Ev) (q : StoreRequest) : (e.send q).decoder = e.decoder := rfl
@[simp] theorem Ev.send_port (e : Ev) (q : StoreRequest) : (e.send q).port = e.port := rfl
@[simp] theorem Ev.send_queue (e : Ev) (q : StoreRequest) : (e.send q).queue = e.queue := rfl
@[simp] theorem Ev.send_slots (e : Ev) (q : StoreRequest) : (e.send q).slots = e.slots := rfl
@[simp] theorem Ev.send_coll (e : Ev) (q : StoreRequest) : (e.send q).coll = e.coll := rfl
@[simp] theorem Ev.send_lanes (e : Ev) (q : StoreRequest) : (e.send q).lanes = e.lanes := rfl
@[simp] theorem Ev.send_frames (e : Ev) (q : StoreRequest) : (e.send q).frames = e.frames := rfl
@[simp] theorem Ev.send_copy (e : Ev) (q : StoreRequest) : (e.send q).copy = e.copy := rfl
@[simp] theorem Ev.send_cmd (e : Ev) (q : StoreRequest) : (e.send q).cmd = e.cmd := rfl
@[simp] theorem Ev.send_notes (e : Ev) (q : StoreRequest) : (e.send q).notes = e.notes := rfl
@[simp] theorem Ev.send_attention (e : Ev) (q : StoreRequest) : (e.send q).attention = e.attention := rfl
@[simp] theorem Ev.send_linkOut (e : Ev) (q : StoreRequest) : (e.send q).linkOut = e.linkOut := rfl
@[simp] theorem Ev.send_storeOut (e : Ev) (q : StoreRequest) : (e.send q).storeOut = e.storeOut ++ [q] := rfl
@[simp] theorem Ev.send_configOut (e : Ev) (q : StoreRequest) : (e.send q).configOut = e.configOut := rfl
@[simp] theorem Ev.send_choice (e : Ev) (q : StoreRequest) : (e.send q).choice = e.choice := rfl
@[simp] theorem Ev.send_pending (e : Ev) (q : StoreRequest) : (e.send q).pending = e.pending := rfl
@[simp] theorem Ev.send_made (e : Ev) (q : StoreRequest) : (e.send q).made = e.made := rfl
@[simp] theorem Ev.send_posted (e : Ev) (q : StoreRequest) : (e.send q).posted = e.posted := rfl
@[simp] theorem Ev.send_reserveDue (e : Ev) (q : StoreRequest) : (e.send q).reserveDue = e.reserveDue := rfl
@[simp] theorem Ev.send_waitWasEmpty (e : Ev) (q : StoreRequest) : (e.send q).waitWasEmpty = e.waitWasEmpty := rfl
@[simp] theorem Ev.send_inOrder (e : Ev) (q : StoreRequest) : (e.send q).inOrder = e.inOrder := rfl

/-! ### dueReserve -/

@[simp] theorem Ev.dueReserve_loader (e : Ev) : (e.dueReserve).loader = e.loader := rfl
@[simp] theorem Ev.dueReserve_decoder (e : Ev) : (e.dueReserve).decoder = e.decoder := rfl
@[simp] theorem Ev.dueReserve_port (e : Ev) : (e.dueReserve).port = e.port := rfl
@[simp] theorem Ev.dueReserve_queue (e : Ev) : (e.dueReserve).queue = e.queue := rfl
@[simp] theorem Ev.dueReserve_slots (e : Ev) : (e.dueReserve).slots = e.slots := rfl
@[simp] theorem Ev.dueReserve_coll (e : Ev) : (e.dueReserve).coll = e.coll := rfl
@[simp] theorem Ev.dueReserve_lanes (e : Ev) : (e.dueReserve).lanes = e.lanes := rfl
@[simp] theorem Ev.dueReserve_frames (e : Ev) : (e.dueReserve).frames = e.frames := rfl
@[simp] theorem Ev.dueReserve_copy (e : Ev) : (e.dueReserve).copy = e.copy := rfl
@[simp] theorem Ev.dueReserve_cmd (e : Ev) : (e.dueReserve).cmd = e.cmd := rfl
@[simp] theorem Ev.dueReserve_notes (e : Ev) : (e.dueReserve).notes = e.notes := rfl
@[simp] theorem Ev.dueReserve_attention (e : Ev) : (e.dueReserve).attention = e.attention := rfl
@[simp] theorem Ev.dueReserve_linkOut (e : Ev) : (e.dueReserve).linkOut = e.linkOut := rfl
@[simp] theorem Ev.dueReserve_storeOut (e : Ev) : (e.dueReserve).storeOut = e.storeOut := rfl
@[simp] theorem Ev.dueReserve_configOut (e : Ev) : (e.dueReserve).configOut = e.configOut := rfl
@[simp] theorem Ev.dueReserve_choice (e : Ev) : (e.dueReserve).choice = e.choice := rfl
@[simp] theorem Ev.dueReserve_pending (e : Ev) : (e.dueReserve).pending = e.pending := rfl
@[simp] theorem Ev.dueReserve_made (e : Ev) : (e.dueReserve).made = e.made := rfl
@[simp] theorem Ev.dueReserve_posted (e : Ev) : (e.dueReserve).posted = e.posted := rfl
@[simp] theorem Ev.dueReserve_reserveDue (e : Ev) : (e.dueReserve).reserveDue = true := rfl
@[simp] theorem Ev.dueReserve_waitWasEmpty (e : Ev) : (e.dueReserve).waitWasEmpty = e.waitWasEmpty := rfl
@[simp] theorem Ev.dueReserve_inOrder (e : Ev) : (e.dueReserve).inOrder = e.inOrder := rfl

/-! ### post -/

@[simp] theorem Ev.post_loader (e : Ev) (p : Poster) (b : NoticeBody) : (e.post p b).loader = e.loader := by
  unfold Ev.post; split <;> rfl
@[simp] theorem Ev.post_decoder (e : Ev) (p : Poster) (b : NoticeBody) : (e.post p b).decoder = e.decoder := by
  unfold Ev.post; split <;> rfl
@[simp] theorem Ev.post_port (e : Ev) (p : Poster) (b : NoticeBody) : (e.post p b).port = e.port := by
  unfold Ev.post; split <;> rfl
@[simp] theorem Ev.post_queue (e : Ev) (p : Poster) (b : NoticeBody) : (e.post p b).queue = e.queue := by
  unfold Ev.post; split <;> rfl
@[simp] theorem Ev.post_slots (e : Ev) (p : Poster) (b : NoticeBody) : (e.post p b).slots = e.slots := by
  unfold Ev.post; split <;> rfl
@[simp] theorem Ev.post_coll (e : Ev) (p : Poster) (b : NoticeBody) : (e.post p b).coll = e.coll := by
  unfold Ev.post; split <;> rfl
@[simp] theorem Ev.post_lanes (e : Ev) (p : Poster) (b : NoticeBody) : (e.post p b).lanes = e.lanes := by
  unfold Ev.post; split <;> rfl
@[simp] theorem Ev.post_frames (e : Ev) (p : Poster) (b : NoticeBody) : (e.post p b).frames = e.frames := by
  unfold Ev.post; split <;> rfl
@[simp] theorem Ev.post_copy (e : Ev) (p : Poster) (b : NoticeBody) : (e.post p b).copy = e.copy := by
  unfold Ev.post; split <;> rfl
@[simp] theorem Ev.post_cmd (e : Ev) (p : Poster) (b : NoticeBody) : (e.post p b).cmd = e.cmd := by
  unfold Ev.post; split <;> rfl
@[simp] theorem Ev.post_notes (e : Ev) (p : Poster) (b : NoticeBody) : (e.post p b).notes = e.notes := by
  unfold Ev.post; split <;> rfl
@[simp] theorem Ev.post_attention (e : Ev) (p : Poster) (b : NoticeBody) : (e.post p b).attention = e.attention := by
  unfold Ev.post; split <;> rfl
@[simp] theorem Ev.post_linkOut (e : Ev) (p : Poster) (b : NoticeBody) : (e.post p b).linkOut = e.linkOut := by
  unfold Ev.post; split <;> rfl
@[simp] theorem Ev.post_storeOut (e : Ev) (p : Poster) (b : NoticeBody) : (e.post p b).storeOut = e.storeOut := by
  unfold Ev.post; split <;> rfl
@[simp] theorem Ev.post_configOut (e : Ev) (p : Poster) (b : NoticeBody) : (e.post p b).configOut = e.configOut := by
  unfold Ev.post; split <;> rfl
@[simp] theorem Ev.post_choice (e : Ev) (p : Poster) (b : NoticeBody) : (e.post p b).choice = e.choice := by
  unfold Ev.post; split <;> rfl
@[simp] theorem Ev.post_pending (e : Ev) (p : Poster) (b : NoticeBody) : (e.post p b).pending = e.pending := by
  unfold Ev.post; split <;> rfl
@[simp] theorem Ev.post_made (e : Ev) (p : Poster) (b : NoticeBody) : (e.post p b).made = e.made := by
  unfold Ev.post; split <;> rfl
@[simp] theorem Ev.post_reserveDue (e : Ev) (p : Poster) (b : NoticeBody) : (e.post p b).reserveDue = e.reserveDue := by
  unfold Ev.post; split <;> rfl
@[simp] theorem Ev.post_waitWasEmpty (e : Ev) (p : Poster) (b : NoticeBody) : (e.post p b).waitWasEmpty = e.waitWasEmpty := by
  unfold Ev.post; split <;> rfl
@[simp] theorem Ev.post_inOrder (e : Ev) (p : Poster) (b : NoticeBody) : (e.post p b).inOrder = e.inOrder := by
  unfold Ev.post; split <;> rfl

theorem Ev.post_posted (e : Ev) (p : Poster) (b : NoticeBody) (h : e.loader.state = .active) :
    (e.post p b).posted = e.posted ++ [(p, { time := e.cmd.bridgeTime, body := b })] := by
  unfold Ev.post; rw [if_pos h]

/-! ### The beginning of an event, and the outputs cleared -/

@[simp] theorem Ev.start_loader (s : State) : (Ev.start s).loader = s.loader := rfl
@[simp] theorem Ev.start_decoder (s : State) : (Ev.start s).decoder = s.decoder := rfl
@[simp] theorem Ev.start_port (s : State) : (Ev.start s).port = s.port := rfl
@[simp] theorem Ev.start_queue (s : State) : (Ev.start s).queue = s.queue := rfl
@[simp] theorem Ev.start_slots (s : State) : (Ev.start s).slots = s.slots := rfl
@[simp] theorem Ev.start_coll (s : State) : (Ev.start s).coll = s.coll := rfl
@[simp] theorem Ev.start_lanes (s : State) : (Ev.start s).lanes = s.lanes := rfl
@[simp] theorem Ev.start_frames (s : State) : (Ev.start s).frames = s.frames := rfl
@[simp] theorem Ev.start_copy (s : State) : (Ev.start s).copy = s.copy := rfl
@[simp] theorem Ev.start_cmd (s : State) : (Ev.start s).cmd = s.cmd := rfl
@[simp] theorem Ev.start_notes (s : State) : (Ev.start s).notes = s.notes := rfl
@[simp] theorem Ev.start_attention (s : State) : (Ev.start s).attention = s.attention := rfl
@[simp] theorem Ev.start_linkOut (s : State) : (Ev.start s).linkOut = s.linkOut := rfl
@[simp] theorem Ev.start_storeOut (s : State) : (Ev.start s).storeOut = s.storeOut := rfl
@[simp] theorem Ev.start_configOut (s : State) : (Ev.start s).configOut = s.configOut := rfl
@[simp] theorem Ev.start_choice (s : State) : (Ev.start s).choice = s.choice := rfl
@[simp] theorem Ev.start_pending (s : State) : (Ev.start s).pending = s.pending := rfl
@[simp] theorem Ev.start_made (s : State) : (Ev.start s).made = [] := rfl
@[simp] theorem Ev.start_posted (s : State) : (Ev.start s).posted = [] := rfl
@[simp] theorem Ev.start_reserveDue (s : State) : (Ev.start s).reserveDue = false := rfl
@[simp] theorem Ev.start_inOrder (s : State) : (Ev.start s).inOrder = false := rfl
@[simp] theorem Ev.start_waitWasEmpty (s : State) : (Ev.start s).waitWasEmpty = s.frames.waitQ.isEmpty := rfl
@[simp] theorem Ev.start_toState (s : State) : (Ev.start s).toState = s := rfl
@[simp] theorem State.clearOut_loader (s : State) : s.clearOut.loader = s.loader := rfl
@[simp] theorem State.clearOut_decoder (s : State) : s.clearOut.decoder = s.decoder := rfl
@[simp] theorem State.clearOut_port (s : State) : s.clearOut.port = s.port := rfl
@[simp] theorem State.clearOut_queue (s : State) : s.clearOut.queue = s.queue := rfl
@[simp] theorem State.clearOut_slots (s : State) : s.clearOut.slots = s.slots := rfl
@[simp] theorem State.clearOut_coll (s : State) : s.clearOut.coll = s.coll := rfl
@[simp] theorem State.clearOut_lanes (s : State) : s.clearOut.lanes = s.lanes := rfl
@[simp] theorem State.clearOut_frames (s : State) : s.clearOut.frames = s.frames := rfl
@[simp] theorem State.clearOut_copy (s : State) : s.clearOut.copy = s.copy := rfl
@[simp] theorem State.clearOut_cmd (s : State) : s.clearOut.cmd = s.cmd := rfl
@[simp] theorem State.clearOut_notes (s : State) : s.clearOut.notes = s.notes := rfl
@[simp] theorem State.clearOut_attention (s : State) : s.clearOut.attention = s.attention := rfl
@[simp] theorem State.clearOut_linkOut (s : State) : s.clearOut.linkOut = [] := rfl
@[simp] theorem State.clearOut_storeOut (s : State) : s.clearOut.storeOut = [] := rfl
@[simp] theorem State.clearOut_configOut (s : State) : s.clearOut.configOut = [] := rfl
@[simp] theorem State.clearOut_choice (s : State) : s.clearOut.choice = s.choice := rfl
@[simp] theorem State.clearOut_pending (s : State) : s.clearOut.pending = s.pending := rfl

/-! ### Reads of the tables after an update -/

theorem Ev.frame_setFrame (e : Ev) (n m : FrameNo) (x : Frame) :
    (e.setFrame n x).frame m = if n = m then x else e.frame m := get_put _ _ _ _

theorem Ev.slot_setSlot (e : Ev) (k j : SlotNo) (x : SlotEntry) :
    (e.setSlot k x).slot j = if k = j then x else e.slot j := get_put _ _ _ _

theorem Ev.lane_setLane (e : Ev) (l m : LaneNo) (x : Lane) :
    (e.setLane l x).lane m = if l = m then x else e.lane m := get_put _ _ _ _

end Sys2Proof.Machine
end

