-- ==== Sys2Proof/Laws/Event.lean ====
section
/-! SUPPORT. What the end of an event can do: the fields it leaves alone, the reservations it makes when R99 asks for none,
and how the store queue grows. -/

namespace Sys2Proof.Machine

/-! ### The notices of an event -/

/-- The end of an event posts at most one notice more (R102). -/
theorem Ev.waitNotice_toState (e : Ev) : e.waitNotice.toState = e.toState := by
  have hp : ∀ (e : Ev) (p : Poster) (b : NoticeBody), (e.post p b).toState = e.toState := by
    intro e p b; unfold Ev.post; split <;> rfl
  unfold Ev.waitNotice
  split
  · split
    · split
      · exact hp _ _ _
      · rfl
    · rfl
  · split
    · rfl
    · exact hp _ _ _

@[simp] theorem Ev.waitNotice_made (e : Ev) : e.waitNotice.made = e.made := by
  unfold Ev.waitNotice
  split
  · split
    · split <;> simp
    · rfl
  · split <;> simp

@[simp] theorem Ev.waitNotice_inOrder (e : Ev) : e.waitNotice.inOrder = e.inOrder := by
  unfold Ev.waitNotice
  split
  · split
    · split <;> simp
    · rfl
  · split <;> simp

/-! ### Reservations -/

/-- The parts of an event that a reservation of R99 leaves as they are. -/
structure Ev.ReserveFrame (e e' : Ev) : Prop where
  loader : e'.loader = e.loader
  decoder : e'.decoder = e.decoder
  port : e'.port = e.port
  slots : e'.slots = e.slots
  coll : e'.coll = e.coll
  copy : e'.copy = e.copy
  cmd : e'.cmd = e.cmd
  notes : e'.notes = e.notes
  attention : e'.attention = e.attention
  linkOut : e'.linkOut = e.linkOut
  storeOut : e'.storeOut = e.storeOut
  configOut : e'.configOut = e.configOut
  choice : e'.choice = e.choice
  pending : e'.pending = e.pending
  made : e'.made = e.made
  posted : e'.posted = e.posted
  inOrder : e'.inOrder = e.inOrder
  reserveDue : e'.reserveDue = e.reserveDue
  waitWasEmpty : e'.waitWasEmpty = e.waitWasEmpty
  waitQ : e'.frames.waitQ = e.frames.waitQ
  sent : e'.queue.sent = e.queue.sent
  held : e'.queue.held = e.queue.held
  reads : e'.queue.reads = e.queue.reads
  probes : e'.queue.probes = e.queue.probes

theorem Ev.ReserveFrame.refl (e : Ev) : e.ReserveFrame e := by constructor <;> rfl

theorem Ev.ReserveFrame.trans {e e' e'' : Ev} (h : e.ReserveFrame e') (h' : e'.ReserveFrame e'') :
    e.ReserveFrame e'' := by
  constructor
  · exact h'.loader.trans h.loader
  · exact h'.decoder.trans h.decoder
  · exact h'.port.trans h.port
  · exact h'.slots.trans h.slots
  · exact h'.coll.trans h.coll
  · exact h'.copy.trans h.copy
  · exact h'.cmd.trans h.cmd
  · exact h'.notes.trans h.notes
  · exact h'.attention.trans h.attention
  · exact h'.linkOut.trans h.linkOut
  · exact h'.storeOut.trans h.storeOut
  · exact h'.configOut.trans h.configOut
  · exact h'.choice.trans h.choice
  · exact h'.pending.trans h.pending
  · exact h'.made.trans h.made
  · exact h'.posted.trans h.posted
  · exact h'.inOrder.trans h.inOrder
  · exact h'.reserveDue.trans h.reserveDue
  · exact h'.waitWasEmpty.trans h.waitWasEmpty
  · exact h'.waitQ.trans h.waitQ
  · exact h'.sent.trans h.sent
  · exact h'.held.trans h.held
  · exact h'.reads.trans h.reads
  · exact h'.probes.trans h.probes

/-- A fold of steps that each keep a reflexive and transitive relation keeps it. -/
theorem foldl_keeps {α β : Type} (R : α → α → Prop) (refl : ∀ a, R a a) (trans : ∀ {a b c}, R a b → R b c → R a c)
    (f : α → β → α) (step : ∀ a b, R a (f a b)) : ∀ (l : List β) (a : α), R a (l.foldl f a)
  | [], a => refl a
  | b :: bs, a => trans (step a b) (foldl_keeps R refl trans f step bs (f a b))

theorem Ev.reserveLane_frame (e : Ev) (l : LaneNo) : e.ReserveFrame (e.reserveLane l) := by
  unfold Ev.reserveLane
  split
  · split
    · constructor <;> simp [Ev.cancelWrites]
    · exact Ev.ReserveFrame.refl e
  · exact Ev.ReserveFrame.refl e

/-- What the reservations of an event leave as it is (R99). -/
theorem Ev.reserveAll_frame (e : Ev) : e.ReserveFrame e.reserveAll := by
  unfold Ev.reserveAll
  split
  · exact foldl_keeps Ev.ReserveFrame Ev.ReserveFrame.refl Ev.ReserveFrame.trans _ Ev.reserveLane_frame _ _
  · exact Ev.ReserveFrame.refl e

/-- R99 considers no reservation in this event: no frame went OPEN or became FREE, and the frame-wait queue did not become
empty. -/
def Ev.noReservation (e : Ev) : Prop := e.reserveDue = false ∧ (e.waitWasEmpty = true ∨ e.frames.waitQ ≠ [])

theorem Ev.reserveAll_none {e : Ev} (h : e.noReservation) : e.reserveAll = e := by
  obtain ⟨h1, h2⟩ := h
  unfold Ev.reserveAll
  rw [if_neg]
  rcases h2 with h2 | h2
  · simp [h1, h2]
  · have : e.frames.waitQ.isEmpty = false := by
      cases hq : e.frames.waitQ with
      | nil => exact absurd hq h2
      | cons a l => rfl
    simp [h1, this]

/-- An event that leaves the frame-wait queue's emptiness as it was asks for no reservation by it. -/
theorem Ev.noReservation_of_same {e : Ev} (h1 : e.reserveDue = false) (h2 : e.waitWasEmpty = e.frames.waitQ.isEmpty) :
    e.noReservation := by
  refine ⟨h1, ?_⟩
  cases hq : e.frames.waitQ with
  | nil => exact .inl (by rw [h2, hq]; rfl)
  | cons a l => exact .inr (by simp)

/-! ### The end of an event -/

@[simp] theorem Ev.finish_loader (e : Ev) : e.finish.loader = e.loader := by
  have h := e.reserveAll_frame.loader
  have h' := congrArg State.loader e.reserveAll.waitNotice_toState
  exact h'.trans h

@[simp] theorem Ev.finish_decoder (e : Ev) : e.finish.decoder = e.decoder :=
  (congrArg State.decoder e.reserveAll.waitNotice_toState).trans e.reserveAll_frame.decoder

@[simp] theorem Ev.finish_port (e : Ev) : e.finish.port = e.port :=
  (congrArg State.port e.reserveAll.waitNotice_toState).trans e.reserveAll_frame.port

@[simp] theorem Ev.finish_slots (e : Ev) : e.finish.slots = e.slots :=
  (congrArg State.slots e.reserveAll.waitNotice_toState).trans e.reserveAll_frame.slots

@[simp] theorem Ev.finish_coll (e : Ev) : e.finish.coll = e.coll :=
  (congrArg State.coll e.reserveAll.waitNotice_toState).trans e.reserveAll_frame.coll

@[simp] theorem Ev.finish_copy (e : Ev) : e.finish.copy = e.copy :=
  (congrArg State.copy e.reserveAll.waitNotice_toState).trans e.reserveAll_frame.copy

@[simp] theorem Ev.finish_cmd (e : Ev) : e.finish.cmd = e.cmd :=
  (congrArg State.cmd e.reserveAll.waitNotice_toState).trans e.reserveAll_frame.cmd

@[simp] theorem Ev.finish_linkOut (e : Ev) : e.finish.linkOut = e.linkOut :=
  (congrArg State.linkOut e.reserveAll.waitNotice_toState).trans e.reserveAll_frame.linkOut

@[simp] theorem Ev.finish_storeOut (e : Ev) : e.finish.storeOut = e.storeOut :=
  (congrArg State.storeOut e.reserveAll.waitNotice_toState).trans e.reserveAll_frame.storeOut

@[simp] theorem Ev.finish_configOut (e : Ev) : e.finish.configOut = e.configOut :=
  (congrArg State.configOut e.reserveAll.waitNotice_toState).trans e.reserveAll_frame.configOut

@[simp] theorem Ev.finish_pending (e : Ev) : e.finish.pending = e.pending :=
  (congrArg State.pending e.reserveAll.waitNotice_toState).trans e.reserveAll_frame.pending

@[simp] theorem Ev.finish_waitQ (e : Ev) : e.finish.frames.waitQ = e.frames.waitQ :=
  (congrArg (fun s : State => s.frames.waitQ) e.reserveAll.waitNotice_toState).trans e.reserveAll_frame.waitQ

theorem StoreQueue.takeHeld_sent (q : StoreQueue) : q.takeHeld.sent = q.sent := rfl
theorem StoreQueue.takeHeld_reads (q : StoreQueue) : q.takeHeld.reads = q.reads := rfl
theorem StoreQueue.takeHeld_probes (q : StoreQueue) : q.takeHeld.probes = q.probes := rfl

/-- Held own writes that enter the queue stand behind all that was there, oldest first (R13). -/
theorem StoreQueue.takeHeld_unsent (q : StoreQueue) :
    q.takeHeld.unsent = q.unsent ++ (q.held.take (16 - q.ownCount)).map (fun w => w.entry none) := rfl

@[simp] theorem Ev.finish_sent (e : Ev) : e.finish.queue.sent = e.queue.sent :=
  (congrArg (fun s : State => s.queue.sent) e.reserveAll.waitNotice_toState).trans e.reserveAll_frame.sent

@[simp] theorem Ev.finish_reads (e : Ev) : e.finish.queue.reads = e.queue.reads :=
  (congrArg (fun s : State => s.queue.reads) e.reserveAll.waitNotice_toState).trans e.reserveAll_frame.reads

@[simp] theorem Ev.finish_probes (e : Ev) : e.finish.queue.probes = e.queue.probes :=
  (congrArg (fun s : State => s.queue.probes) e.reserveAll.waitNotice_toState).trans e.reserveAll_frame.probes

/-- The end of an event puts only held own writes into the queue, behind all that stands there (R13); with no reservation
the writes there are as they were. -/
theorem Ev.finish_unsent {e : Ev} (h : e.noReservation) :
    ∃ later : List OwnWrite, e.finish.queue.unsent = e.queue.unsent ++ later.map (fun w => w.entry none) := by
  have hs := e.waitNotice_toState
  simp only [Ev.finish, Ev.reserveAll_none h, State.updateAttention, Ev.settle]
  rw [StoreQueue.takeHeld_unsent]
  simp only [hs]
  exact ⟨_, rfl⟩

/-- Frames and lanes at the end of an event with no reservation (R99). -/
theorem Ev.finish_frames {e : Ev} (h : e.noReservation) : e.finish.frames = e.frames := by
  show e.reserveAll.waitNotice.frames = e.frames
  rw [Ev.reserveAll_none h]
  exact congrArg State.frames e.waitNotice_toState

theorem Ev.finish_lanes {e : Ev} (h : e.noReservation) : e.finish.lanes = e.lanes := by
  show e.reserveAll.waitNotice.lanes = e.lanes
  rw [Ev.reserveAll_none h]
  exact congrArg State.lanes e.waitNotice_toState

/-- The tick count, the lane hold time and the profile's frame geometry stand through every end of an event. -/
theorem Ev.reserveLane_geometry (e : Ev) (l : LaneNo) :
    (e.reserveLane l).lanes.tick = e.lanes.tick ∧ (e.reserveLane l).lanes.hold = e.lanes.hold
      ∧ (e.reserveLane l).frames.exp = e.frames.exp ∧ (e.reserveLane l).frames.nF = e.frames.nF
      ∧ (e.reserveLane l).frames.floor = e.frames.floor ∧ (e.reserveLane l).frames.straggler = e.frames.straggler
      ∧ (e.reserveLane l).frames.preamble = e.frames.preamble := by
  unfold Ev.reserveLane
  split
  · split
    · simp [Ev.cancelWrites]
    · simp
  · simp

/-- After every event the attention line is at the level R166 gives. -/
theorem Ev.finish_attention (e : Ev) : e.finish.attention = e.finish.attentionLevel := rfl

end Sys2Proof.Machine
end

