-- ==== Sys2Proof/WellFormed.lean ====
section
/-! DEFINITION. When a command's operands have the form its row names. The meanings do not need it: a request is judged by
its own address, form and code (log 3); a well-formed command is one whose row names what it carries. -/

namespace Sys2Proof

/-- The code byte of a record or cell write: its byte 0 (R179, R180, R181). -/
def codeOf (data : List Byte) : Nat := (data.headD 0).toNat

/-- A whole 64-byte cell with command code `code` (R139, R140). -/
def isCommandCell (code : Nat) (data : List Byte) : Bool := data.length == 64 && codeOf data == code

/-- The well-formed commands. -/
def Instr.wellFormed : Instr → Bool
  | .profileReadDone memory => memory.length == 4096
  | .openFile _ _ d => d.length == 64 && codeOf d == 1
  | .closeFile _ _ d => (d.length == 64 || d.length == 8) && codeOf d == 2
  | .abandonFile _ _ d => (d.length == 64 || d.length == 8) && codeOf d == 3
  | .dataWrite _ addr d => 1 ≤ d.length && d.length ≤ 512 && addr.toNat % 4096 + d.length ≤ 4096
  | .slotRead _ addr len => 1 ≤ len && len ≤ 512 && addr.toNat % 4096 + len ≤ 4096
  | .register _ _ d => isCommandCell 1 d
  | .unregister _ _ d => isCommandCell 2 d
  | .setClass _ _ d => isCommandCell 3 d
  | .setPattern _ _ d => isCommandCell 4 d
  | .setTable _ _ d => isCommandCell 5 d
  | .setSerial _ _ d => isCommandCell 6 d
  | .setTime _ _ d => isCommandCell 7 d
  | .setAttention _ _ d => isCommandCell 8 d
  | .drain _ _ d => isCommandCell 9 d
  | .freeze _ _ d => isCommandCell 10 d
  | .resume _ _ d => isCommandCell 11 d
  | .discard _ _ d => isCommandCell 12 d
  | .commandCodeRefused _ _ d => d.length == 64 && 13 ≤ codeOf d
  | .confirm _ _ d => d.length == 64 && codeOf d != 0
  | .consumerIndex _ _ d => d.length == 8
  | .readAnswer (.data bytes) => bytes.length ≤ 512
  | .probeAnswer (.data bytes) => bytes.length == 16
  | .powerOnReset _ | .profileReadError | .profileReadTimeout | .linkReset | .upstreamWrite _ _ _
  | .upstreamRead _ _ _ | .writeSend | .storeWriteAnswer _ | .dataWriteFault | .statusWordFault
  | .openHeaderAnswer _ | .indexEntryAnswer _ | .sealHeaderDone | .sealHeaderFault | .confirmStatusFault
  | .commandStatusFault | .descriptionRecordFault | .noticeWriteDone | .noticeWriteFault
  | .clearingWriteAnswer _ | .passiveRecordAnswer _ | .readAnswer .fault | .probeAnswer .fault | .tick
  | .quietExpiry _ | .ageExpiry _ | .stragglerExpiry _ | .ownWriteDone => true

end Sys2Proof
end

