-- ==== Sys2Proof/Tests/Slice0.lean ====
section
/-! SUPPORT. The model's own tests: the WellFormed smoke tests; one step of a command against the spec's worked examples;
and, for each statement with hypotheses, a witness that meets them, each clause at a boundary of its range. -/

namespace Sys2Proof.Tests

set_option Elab.async false

open Sys2Proof Sys2Proof.Machine Sys2Proof.Safety

/-! ### Small states -/

/-- The state a command leads to, if it leads to one. -/
def after (c : Instr) (s : State) : Option State :=
  match exec c s with
  | .next t => some t
  | _ => none

/-- The command makes a next state of which `p` holds. -/
def gives (c : Instr) (s : State) (p : State → Bool) : Bool :=
  match exec c s with
  | .next t => p t
  | _ => false

/-- ACTIVE with windows: control at 0x1000_0000 (store 0x200_0000), slots at 2^45, 16 frames of 2^26 bytes at 2^44 (store
2^36), pass window 0 at 0x7000_0000_0000 (store 0x80_0000_0000) and pass window 1, read-only, behind it. -/
def base : State :=
  { State.reset with
    loader := { state := .active, strap := 0 }
    decoder := { control := { base := 0x10000000, size := 131072, store := 0x2000000, readOnly := false },
                 slot := { base := 2 ^ 45, size := 8589934592, store := 0, readOnly := false },
                 pack := { base := 2 ^ 44, size := 2 ^ 30, store := 2 ^ 36, readOnly := false },
                 pass := #v[{ base := 0x700000000000, size := 4096, store := 0x8000000000, readOnly := false },
                            { base := 0x700000001000, size := 4096, store := 0x8000001000, readOnly := true },
                            Window.absent, Window.absent],
                 openPassage := false }
    frames := { State.reset.frames with exp := 26, nF := 16, floor := 1 }
    coll := { State.reset.coll with classes := Vector.replicate 8 cls }
    notes := { State.reset.notes with toClear := 0 } }
where
  /-- Class values within the ranges of R68. -/
  cls : ClassRec := { ownLane := false, params := { files := 64, align := 4096, target := 63, quiet := 600, age := 11,
                                                    copies := 2 } }

/-- The address of an offset of the control window. -/
def ctl (off : Nat) : UpAddr := BitVec.ofNat 48 (0x10000000 + off)

/-- The address of an offset of a slot. -/
def slotAt (k o : Nat) : UpAddr := BitVec.ofNat 48 (2 ^ 45 + k * 16777216 + o)

/-- The address of an offset of the pack window. -/
def packAt (off : Nat) : UpAddr := BitVec.ofNat 48 (2 ^ 44 + off)

/-- `n` zero bytes. -/
def zeros (n : Nat) : List Byte := List.replicate n 0

/-- A file of requester 3 with declared length 10,000 and an empty account. -/
def file3 : File :=
  { owner := 3, lastReq := 17, acc := Acc.zero, account := Account.fresh,
    intent := { tag := 0x5A17, length := 10000, serial := 9, nameDigest := 7, hint := 0, closeRequired := false } }

/-- An OPEN frame of lane 0 with one file in flight. -/
def openFrame0 : Frame :=
  { Frame.free with
    state := .opened, lane := 0, serial := 4410, params := base.cls.params, mixed := true, fill := 12288, count := 1,
    inFlight := 1 }

/-- `s` with frame `n` replaced. -/
def withFrame (s : State) (n : FrameNo) (f : Frame) : State :=
  { s with frames := { s.frames with table := put s.frames.table n f } }

/-- `s` with slot `k` replaced. -/
def withSlot (s : State) (k : SlotNo) (x : SlotEntry) : State := { s with slots := { table := put s.slots.table k x } }

/-- `s` with lane `l` replaced. -/
def withLane (s : State) (l : LaneNo) (x : Lane) : State :=
  { s with lanes := { s.lanes with table := put s.lanes.table l x } }

/-- `base` with frame 3 OPEN in lane 0 and a file of slot 40 FILLING in it. -/
def filling : State :=
  withSlot (withLane (withFrame base 3 openFrame0) 0 { Lane.unbound with binding := .mixed, openFrame := some 3 }) 40
    (.filling file3 0 0 { frame := 3, entry := 0, offset := 0 })

/-- `s` with the oldest sent write `x`. -/
def withSent (s : State) (x : Entry) : State := { s with queue := { s.queue with sent := [x] } }

/-- An own write of `kind` in the queue. -/
def ownEntry (kind : OwnKind) : Entry := { origin := .own kind, countsFor := none, addr := 2 ^ 36, data := zeros 64, cancelled := false }

/-- `base` with a frame in every state but FREE: 3 OPEN and 5 RESERVED in lanes 0 and 6, 4 CLOSING and 6 SEALED, files of
slots 40 and 41 FILLING in 3 and 4, and slot 30 in LOOKUP. -/
def fates : State :=
  let lane6 : Lane := { binding := .collection 0x5A17 2, openFrame := none, reserved := some 5, lastPlace := 0 }
  let s := withLane (withLane base 0 { Lane.unbound with binding := .mixed, openFrame := some 3 }) 6 lane6
  let s := withFrame (withFrame s 3 { openFrame0 with serial := 10 }) 4
    { openFrame0 with serial := 11, state := .closing, reason := some .quiet }
  let s := withFrame (withFrame s 5 { Frame.free with state := .reserved, lane := 6 }) 6
    { openFrame0 with serial := 12, state := .sealed, inFlight := 0 }
  let s := withSlot (withSlot s 40 (.filling file3 0 0 { frame := 3, entry := 0, offset := 0 })) 41
    (.filling file3 0 0 { frame := 4, entry := 0, offset := 0 })
  { withSlot s 30 (.lookup file3) with
    coll := { s.coll with lookupQ := [30] }, cmd := { s.cmd with nextSerial := 13 } }

/-- The lanes of `fates`. -/
theorem fates_lane (l : LaneNo) : fates.lanes.table.get l
    = if (6 : LaneNo) = l then { binding := .collection 0x5A17 2, openFrame := none, reserved := some 5, lastPlace := 0 }
      else if (0 : LaneNo) = l then { Lane.unbound with binding := .mixed, openFrame := some 3 }
      else Lane.unbound := by
  revert l; decide +kernel

/-- The frames of `fates`. -/
theorem fates_frame (n : FrameNo) : fates.frames.table.get n
    = if (6 : FrameNo) = n then { openFrame0 with serial := 12, state := .sealed, inFlight := 0 }
      else if (5 : FrameNo) = n then { Frame.free with state := .reserved, lane := 6 }
      else if (4 : FrameNo) = n then { openFrame0 with serial := 11, state := .closing, reason := some .quiet }
      else if (3 : FrameNo) = n then { openFrame0 with serial := 10 } else Frame.free := by
  simp only [fates, withFrame, withSlot, withLane, get_put]
  have h : base.frames.table.get n = Frame.free := by
    simp [base, State.reset, Vector.get]
  rw [h]

/-- The slots of `fates`. -/
theorem fates_slot (k : SlotNo) : fates.slots.table.get k
    = if (30 : SlotNo) = k then .lookup file3
      else if (41 : SlotNo) = k then .filling file3 0 0 { frame := 4, entry := 0, offset := 0 }
      else if (40 : SlotNo) = k then .filling file3 0 0 { frame := 3, entry := 0, offset := 0 } else .idle := by
  simp only [fates, withFrame, withSlot, withLane, get_put]
  have h : base.slots.table.get k = .idle := by simp [base, State.reset, Vector.get]
  rw [h]

/-- The files in flight of `fates`. -/
theorem fates_inFlight (n : FrameNo) : fates.slots.table.toList.countP (inFrame n)
    = if n = 3 ∨ n = 4 then 1 else 0 := by
  have h : fates.slots.table.toList = List.replicate 30 .idle ++ SlotEntry.lookup file3 :: (List.replicate 9 .idle
      ++ [.filling file3 0 0 { frame := 3, entry := 0, offset := 0 }, .filling file3 0 0 { frame := 4, entry := 0, offset := 0 }]
      ++ List.replicate 470 .idle) := by decide +kernel
  have z : ∀ m, (List.replicate m SlotEntry.idle).countP (inFrame n) = 0 := fun m => by
    rw [List.countP_replicate]; rfl
  rw [h]
  simp only [List.countP_append, List.countP_cons, List.countP_nil, z]
  by_cases h3 : n = 3
  · subst h3; rfl
  · by_cases h4 : n = 4
    · subst h4; rfl
    · simp [inFrame, placedFile, h3, h4, Ne.symm h3, Ne.symm h4]

/-! ### WellFormed refuses an ill-formed command -/

theorem test_wf_profile_short : (Instr.profileReadDone (zeros 4095)).wellFormed = false := by decide +kernel
theorem test_wf_open_word : (Instr.openFile 0 (ctl 0x1000) (1 :: zeros 7)).wellFormed = false := by decide
theorem test_wf_close_code : (Instr.closeFile 0 (ctl 0x1000) (3 :: zeros 7)).wellFormed = false := by decide
theorem test_wf_abandon_length : (Instr.abandonFile 0 (ctl 0x1000) (3 :: zeros 8)).wellFormed = false := by decide
theorem test_wf_data_crosses : (Instr.dataWrite 0 (slotAt 0 4095) (zeros 2)).wellFormed = false := by decide
theorem test_wf_data_empty : (Instr.dataWrite 0 (slotAt 0 0) []).wellFormed = false := by decide
theorem test_wf_read_long : (Instr.slotRead 0 (slotAt 0 0) 513).wellFormed = false := by decide
theorem test_wf_register_code : (Instr.register 0 (ctl 0x400) (2 :: zeros 63)).wellFormed = false := by decide
theorem test_wf_unregister_form : (Instr.unregister 0 (ctl 0x400) (2 :: zeros 62)).wellFormed = false := by decide
theorem test_wf_command_codes :
    (Instr.setClass 0 (ctl 0x400) (zeros 64)).wellFormed = false ∧ (Instr.setPattern 0 (ctl 0x400) (zeros 64)).wellFormed = false
    ∧ (Instr.setTable 0 (ctl 0x400) (zeros 64)).wellFormed = false ∧ (Instr.setSerial 0 (ctl 0x400) (zeros 64)).wellFormed = false
    ∧ (Instr.setTime 0 (ctl 0x400) (zeros 64)).wellFormed = false ∧ (Instr.setAttention 0 (ctl 0x400) (zeros 64)).wellFormed = false
    ∧ (Instr.drain 0 (ctl 0x400) (zeros 64)).wellFormed = false ∧ (Instr.freeze 0 (ctl 0x400) (zeros 64)).wellFormed = false
    ∧ (Instr.resume 0 (ctl 0x400) (zeros 64)).wellFormed = false ∧ (Instr.discard 0 (ctl 0x400) (zeros 64)).wellFormed = false := by
  decide
theorem test_wf_code_known : (Instr.commandCodeRefused 0 (ctl 0x400) (12 :: zeros 63)).wellFormed = false := by decide
theorem test_wf_confirm_zero : (Instr.confirm 0 (ctl 0x800) (zeros 64)).wellFormed = false := by decide
theorem test_wf_consumer_form : (Instr.consumerIndex 0 (ctl 0xC00) (zeros 7)).wellFormed = false := by decide
theorem test_wf_probe_short : (Instr.probeAnswer (.data (zeros 15))).wellFormed = false := by decide
theorem test_wf_answer_long : (Instr.readAnswer (.data (zeros 513))).wellFormed = false := by decide +kernel

/-! ### Witnesses: resets, the profile, timers -/

/-- A command or confirm cell: code (or request number), request number 9, and arguments. -/
def cell (code : Nat) (args : List (Nat × List Byte)) : List Byte := record 64 ([(0, le 1 code), (1, le 1 9)] ++ args)

/-- A profile that passes every check, written out from R186, with the check word of R168 put behind it. -/
def profile : List Byte := body ++ le 4 (digestOf body).toNat
where
  /-- Bytes 0..1,019. -/
  body : List Byte := (record 1020
    ([(0, le 6 0x10000000), (16, le 5 0x2000000), (24, le 6 (2 ^ 45)), (48, le 6 (2 ^ 44)), (64, le 5 (2 ^ 36)),
      (168, le 1 26), (170, le 2 16), (178, le 1 1)]
     ++ (List.range 8).map (fun c => (216 + c * 16 + 6, le 2 512))))

/-- A configuration memory whose last profile is `profile`. -/
def configMemory : List Byte := zeros 3072 ++ profile

/-- LOADING, with the straps reading 3. -/
def strap3 : State := { State.reset with loader := { State.reset.loader with strap := 3 } }

theorem witness_carried_out : isStoreAnswer .tick = false ∧ ∃ t, exec .profileReadTimeout State.reset = .next t :=
  ⟨rfl, _, rfl⟩

theorem witness_profile_passes :
    strap3.loader.state = .loading ∧ configMemory.length = 4096
      ∧ (let d := (configMemory.drop (strap3.loader.strap.val * 1024)).take 1024
         (digestOf (d.take 1020)).toNat = field d 1020 4 ∧ (parseProfile d).check = none) := by
  decide +kernel

/-- LOADING, at a tick count. -/
def loadingAt (tick : Nat) : State := { State.reset with lanes := { State.reset.lanes with tick := BitVec.ofNat 48 tick } }

theorem witness_failed_profiles :
    State.reset.loader.state = .loading ∧ (loadingAt 3).loader.state = .loading
      ∧ 4 ≤ ((loadingAt 3).lanes.tick + 1).toNat ∧ 4 ≤ (loadingAt 4).lanes.tick.toNat
      ∧ (let d := ((List.replicate 4096 (255 : Byte)).drop (State.reset.loader.strap.val * 1024)).take 1024
         (digestOf (d.take 1020)).toNat ≠ field d 1020 4)
      ∧ (let d := (configMemory.drop (State.reset.loader.strap.val * 1024)).take 1024
         (digestOf (d.take 1020)).toNat = field d 1020 4
          ∧ (parseProfile d).check = some { code := 2, detail1 := 0, detail2 := 0 }) := by
  decide +kernel

/-- `filling` at a tick count. -/
def fillingAt (tick : Nat) : State := { filling with lanes := { filling.lanes with tick := BitVec.ofNat 48 tick } }

/-- `filling` with its frame CLOSING since tick 0. -/
def closing (tick : Nat) : State :=
  withFrame (fillingAt tick) 3 { openFrame0 with state := .closing, reason := some .quiet }

/-- Frame 3's quiet time and age limit have or have not passed at tick count `now`, as the statements put it. -/
def dueAt (s : State) (now : Seconds) : Bool × Bool :=
  let f := s.frames.table.get 3
  (decide ((if f.params.quiet = 0 then 900 else f.params.quiet) ≤ (now - f.lastPlace).toNat),
   decide (60 * (if f.params.age = 0 then 1440 else f.params.age) ≤ (now - f.openTick).toNat))

theorem witness_tick_frames :
    (fillingAt 659).loader.state = .active ∧ InUse (fillingAt 659) 3
      ∧ ((fillingAt 659).frames.table.get 3).state = .opened
      ∧ dueAt (fillingAt 659) ((fillingAt 659).lanes.tick + 1) = (true, true)
      ∧ dueAt (fillingAt 599) ((fillingAt 599).lanes.tick + 1) = (true, false)
      ∧ dueAt (fillingAt 598) ((fillingAt 598).lanes.tick + 1) = (false, false)
      ∧ ((closing 119).frames.table.get 3).state = .closing
      ∧ 120 ≤ ((closing 119).lanes.tick + 1 - ((closing 119).frames.table.get 3).closeTick).toNat := by
  decide +kernel

theorem witness_expiries :
    (fillingAt 600).loader.state = .active ∧ HoldsOpen (fillingAt 600) 0 3
      ∧ dueAt (fillingAt 600) (fillingAt 600).lanes.tick = (true, false)
      ∧ HoldsOpen (fillingAt 660) 0 3 ∧ dueAt (fillingAt 660) (fillingAt 660).lanes.tick = (true, true) := by
  decide +kernel

theorem witness_straggler :
    (closing 120).loader.state = .active ∧ ((closing 120).frames.table.get 3).state = .closing
      ∧ 120 ≤ ((closing 120).lanes.tick - ((closing 120).frames.table.get 3).closeTick).toNat
      ∧ ((closing 120).frames.table.get 3).inFlight = (closing 120).slots.table.toList.countP (inFrame 3) := by
  decide +kernel

theorem witness_held : HeldOk fates := by
  refine ⟨fun l n h => ?_, fun l n h => ?_, fun n h => ?_, fun n h => ?_⟩ <;>
    simp only [fates_lane, fates_frame] at h ⊢ <;> repeat' split at h
  all_goals simp_all [Lane.unbound, Frame.free, openFrame0]
  all_goals subst h; simp

theorem witness_in_flight : InFlightOk fates := by
  intro n
  rw [fates_inFlight, fates_frame]
  by_cases h3 : n = 3
  · subst h3; decide
  · by_cases h4 : n = 4
    · subst h4; decide
    · simp only [h3, h4, Ne.symm h3, Ne.symm h4]
      repeat' split
      all_goals simp_all [Frame.free]

/-- A slot in LOOKUP and one in WAITING, of requester 3. -/
def queued : State := withSlot (withSlot base 1 (.lookup file3)) 2 (.waiting file3 0 0)

theorem witness_link_reset :
    AtWork fates ∧ fates.frames.waitQ = [] ∧ fates.notes.pending.length < 32
      ∧ placedFile (fates.slots.table.get 41) = some (file3, { frame := 4, entry := 0, offset := 0 })
      ∧ queuedFile (fates.slots.table.get 30) = some file3
      ∧ State.reset.loader.state ≠ .active ∧ State.reset.port.linkReset = false
      ∧ (let s := { queued with frames := { queued.frames with waitQ := [2] } }
         AtWork s ∧ s.frames.waitQ ≠ [] ∧ s.notes.pending.length < 31) := by
  decide +kernel

/-! ### Witnesses: the transaction path -/

/-- `base` with open passage set. -/
def passage : State := { base with decoder := { base.decoder with openPassage := true } }

/-- `base` with every upstream entry taken. -/
def fullUp : State :=
  { base with queue := { base.queue with
      sent := List.replicate 48 { origin := .upstream 0 .unclaimed 0, countsFor := some 0, addr := 0, data := [0], cancelled := false } } }

/-- `base` with every own entry taken. -/
def fullOwn : State := { base with queue := { base.queue with sent := List.replicate 16 (ownEntry .description) } }

theorem witness_window_writes_pass :
    Hears base 5 ∧ WellSized 0x700000000E00 (zeros 512).length ∧ RoomFor base 0
      ∧ base.decoder.place (0x700000000E00 : UpAddr).toNat = .pass 0 0x8000000E00 false
      ∧ base.decoder.place (0x700000001FFF : UpAddr).toNat = .pass 1 0x8000001FFF true := by
  decide +kernel

theorem witness_window_writes_pack :
    Hears filling 5 ∧ WellSized (packAt (2 ^ 28)) 1 ∧ RoomFor filling 0 ∧ InUse filling 15 ∧ InUse filling 3
      ∧ filling.decoder.place (packAt (16 * 2 ^ 26 - 1)).toNat = .pack (15 * 2 ^ 26 + (2 ^ 26 - 1))
      ∧ (filling.frames.table.get 15).state = .free
      ∧ filling.decoder.place (packAt (3 * 2 ^ 26)).toNat = .pack (3 * 2 ^ 26 + 0)
      ∧ (filling.frames.table.get 3).state ≠ .free
      ∧ (let s := { filling with frames := { filling.frames with nF := 15 } }
         s.decoder.place (packAt (15 * 2 ^ 26)).toNat = .pack (15 * 2 ^ 26)
          ∧ s.frames.nF * 2 ^ s.frames.exp ≤ 15 * 2 ^ 26) := by
  decide +kernel

theorem witness_window_writes_unclaimed :
    Hears base 5 ∧ Hears passage 5 ∧ WellSized 0xFFFFFFFE00 512 ∧ RoomFor passage 0
      ∧ base.decoder.place 0xFFFFFFFE00 = .unclaimed ∧ base.decoder.openPassage = false
      ∧ passage.decoder.place (2 ^ 40) = .unclaimed ∧ 2 ^ 40 < 2 ^ 40 + 1 ∧ passage.decoder.openPassage = true
      ∧ 0xFFFFFFFE00 + 512 ≤ 2 ^ 40 ∧ passage.meetsRegions 0xFFFFFFFE00 512 = false
      ∧ passage.decoder.place (2 ^ 36 + 16 * 2 ^ 26 - 1) = .unclaimed
      ∧ passage.meetsRegions (2 ^ 36 + 16 * 2 ^ 26 - 1) 1 = true
      ∧ passage.meetsRegions (2 ^ 36 + 16 * 2 ^ 26) 1 = false := by
  decide +kernel

theorem witness_malformed :
    Hears base 5 ∧ ¬WellSized (ctl 0) (zeros 0).length ∧ ¬WellSized (ctl 0) 513 ∧ ¬WellSized (ctl 4095) 2 := by
  decide +kernel

theorem witness_retry :
    asWrite (.upstreamWrite 5 (ctl 0x400) (cell 7 [])) = some (5, ctl 0x400, cell 7 [])
      ∧ State.reset.port.awaiting.get 5 = none ∧ State.reset.loader.state = .loading
      ∧ ({ base with port := { base.port with linkReset := true } } : State).port.linkReset = true
      ∧ AtControl fullUp 5 (ctl 0x400) (cell 7 []) 0x400 ∧ 48 ≤ fullUp.queue.upCount
      ∧ AtControl fullOwn 5 (ctl 0x400) (cell 7 []) (0x400 + (0 : CellNo).val * 64) ∧ 16 ≤ fullOwn.queue.ownCount
      ∧ (cell 7 []).length = 64 ∧ field (cell 7 []) 0 1 ≠ 0
      ∧ SlotDue queued 3 (slotAt 1 0) 1 1 0 ∧ queued.slots.table.get 1 = .lookup file3
      ∧ SlotDue queued 3 (slotAt 2 4095) 1 2 4095 ∧ queued.slots.table.get 2 = .waiting file3 0 0 ∧ file3.owner = 3 := by
  decide +kernel

/-- `base` with frame 3 SEALING. -/
def sealing : State := withFrame base 3 { openFrame0 with state := .sealing, inFlight := 0, assigned := 3 }

theorem witness_window_reads :
    Hears base 5 ∧ WellSized (ctl 0x1FFFF) 1 ∧ base.decoder.place (ctl 0x1FFFF).toNat = .control 0x1FFFF
      ∧ base.decoder.place (0x700000001FFF : UpAddr).toNat = .pass 1 0x8000001FFF true
      ∧ base.queue.unsent.any (fun x => x.countsFor == some 5) = false
      ∧ (let s := { base with queue := { base.queue with unsent := fullUp.queue.sent } }
         Hears s 0 ∧ s.queue.unsent.any (fun x => x.countsFor == some 0) = true)
      ∧ Hears sealing 5 ∧ InUse sealing 3 ∧ sealing.decoder.place (packAt (3 * 2 ^ 26)).toNat = .pack (3 * 2 ^ 26 + 0)
      ∧ (sealing.frames.table.get 3).state = .sealing ∧ InUse sealing 15
      ∧ sealing.decoder.place (packAt (16 * 2 ^ 26 - 1)).toNat = .pack (15 * 2 ^ 26 + (2 ^ 26 - 1))
      ∧ (sealing.frames.table.get 15).state ≠ .sealing := by
  decide +kernel

theorem witness_outer_reads :
    (let s := { base with frames := { base.frames with nF := 15 } }
     Hears s 5 ∧ s.decoder.place (packAt (15 * 2 ^ 26)).toNat = .pack (15 * 2 ^ 26)
      ∧ s.frames.nF * 2 ^ s.frames.exp ≤ 15 * 2 ^ 26)
      ∧ base.decoder.place 0xFFFFFFFE00 = .unclaimed ∧ base.decoder.openPassage = false
      ∧ Hears passage 5 ∧ WellSized 0xFFFFFFFE00 512 ∧ passage.decoder.openPassage = true
      ∧ passage.decoder.place 0xFFFFFFFE00 = .unclaimed ∧ 0xFFFFFFFE00 + 512 ≤ 2 ^ 40
      ∧ passage.meetsRegions 0xFFFFFFFE00 512 = false ∧ ¬0xFFFFFFFE01 + 512 ≤ 2 ^ 40
      ∧ passage.meetsRegions (2 ^ 36 + 16 * 2 ^ 26 - 1) 1 = true := by
  decide +kernel

theorem witness_slot_reads :
    SlotDue queued 5 (slotAt 511 0) 512 511 0 ∧ queued.slots.table.get 511 = .idle
      ∧ SlotDue queued 5 (slotAt 1 0) 512 1 0 ∧ queued.slots.table.get 1 = .lookup file3
      ∧ SlotDue queued 5 (slotAt 2 0) 512 2 0 ∧ queued.slots.table.get 2 = .waiting file3 0 0
      ∧ SlotDue filling 5 (slotAt 40 10000) 240 40 10000 ∧ SlotDue filling 5 (slotAt 40 9999) 240 40 9999
      ∧ filling.slots.table.get 40 = .filling file3 0 0 { frame := 3, entry := 0, offset := 0 }
      ∧ file3.intent.length = 10000 := by
  decide +kernel

/-- `base` in PASSIVE, with an unsent write of a requester whose read waits behind it. -/
def passive : State :=
  { base with
    loader := { base.loader with state := .passive }
    queue := { base.queue with unsent := [upstreamEntry 5 .passive 0 0 [1]] } }

/-- `s` with every upstream entry taken. -/
def crowded (s : State) : State := { s with queue := fullUp.queue }

/-- `s` with all own entries but one taken. -/
def short (s : State) : State :=
  { s with queue := { s.queue with sent := List.replicate 15 (ownEntry .description) } }

theorem witness_passive :
    passive.loader.state = .passive ∧ passive.port.linkReset = false ∧ passive.port.awaiting.get 5 = none
      ∧ asWrite (.upstreamWrite 5 0xFFFFFFFE00 (zeros 512)) = some (5, 0xFFFFFFFE00, zeros 512)
      ∧ WellSized 0xFFFFFFFE00 (zeros 512).length ∧ (0xFFFFFFFE00 : UpAddr).toNat + (zeros 512).length ≤ 2 ^ 40
      ∧ passive.queue.upCount < 48 ∧ 48 ≤ (crowded passive).queue.upCount ∧ (crowded passive).loader.state = .passive
      ∧ ¬(0xFFFFFFFE01 : UpAddr).toNat + (zeros 512).length ≤ 2 ^ 40 ∧ ¬WellSized 0 0
      ∧ passive.queue.unsent = [upstreamEntry 5 .passive 0 0 [1]] := by
  decide +kernel

/-! ### Witnesses: slots -/

/-- A slot record: code, request number 9, tag, declared length and class hint. -/
def slotRecord (code length hint : Nat) : List Byte :=
  cell code [(8, le 4 0x5A17), (12, le 4 length), (22, le 1 hint)]

/-- A lane-0 entry of requester 3's slot record `k`. -/
def rec (k : Nat) : UpAddr := ctl (0x1000 + k * 64)

/-- `filling` with a class whose files have lanes of their own, and lane 6 bound to the tag. -/
def bound : State :=
  let s := withLane (withFrame base 4 { openFrame0 with lane := 6, mixed := false, cls := 2, tag := 0x5A17 }) 6
    { binding := .collection 0x5A17 2, openFrame := some 4, reserved := none, lastPlace := 0 }
  { s with coll := { s.coll with
      classes := put s.coll.classes 2 { base.cls with ownLane := true }
      entries := [{ tag := 0x5A17, cls := 2, pinned := false, listed := true, lane := some 6 }] } }

theorem witness_open_placed :
    RecordDue filling 3 (rec 511) (slotRecord 1 16777216 0) 511 1 1 ∧ filling.slots.table.get 511 = .idle
      ∧ field (slotRecord 1 16777216 0) 12 4 = 16777216 ∧ field (slotRecord 1 16777216 0) 22 1 = (0 : ClassNo).val
      ∧ (filling.coll.classes.get 0).ownLane = false ∧ HoldsOpen filling 0 3 ∧ filling.frames.waitQ = []
      ∧ (let p := (filling.frames.table.get 3).params
         let fill := (filling.frames.table.get 3).fill + (16777216 + p.align - 1) / p.align * p.align
         (filling.frames.table.get 3).count + 1 < p.files ∧ fill ≤ 2 ^ filling.frames.exp - (512 + p.files * 64)
          ∧ fill < p.target * 1048576)
      ∧ RecordDue bound 3 (rec 0) (slotRecord 1 1 255) 0 1 1 ∧ field (slotRecord 1 1 255) 22 1 = 255
      ∧ (bound.coll.entries.find? (fun x => x.tag == BitVec.ofNat 32 (field (slotRecord 1 1 255) 8 4))).map
          (fun x => (x.cls, x.lane)) = some (2, some 6)
      ∧ (bound.coll.classes.get 2).ownLane = true ∧ HoldsOpen bound 6 4 := by
  decide +kernel

/-- Frame 0 is FREE in `base`, and is the one a new pack takes. -/
theorem base_frame_for (l : LaneNo) (h : (base.lanes.table.get l).reserved = none) : FrameFor base l 0 :=
  .inr ⟨h, by decide +kernel, by decide +kernel, fun m hm => absurd hm (Nat.not_lt_zero m.val)⟩

theorem witness_open_new_pack :
    RecordDue base 3 (rec 20) (slotRecord 1 10000 0) 20 1 2 ∧ base.slots.table.get 20 = .idle
      ∧ LengthOk (slotRecord 1 10000 0) ∧ RoutedTo base (slotRecord 1 10000 0) 0 0
      ∧ (base.lanes.table.get 0).openFrame = none ∧ FrameFor base 0 0 ∧ base.frames.waitQ = []
      ∧ base.cmd.nextSerial < 2 ^ 48 ∧ StaysOpen (packRecord base 0 (base.lanes.table.get 0).binding) 10000 :=
  ⟨by decide +kernel, by decide +kernel, by decide +kernel, by decide +kernel, by decide +kernel,
    base_frame_for 0 (by decide +kernel), by decide +kernel, by decide +kernel, by decide +kernel⟩

/-- `bound` with lane 6 holding frame 5 RESERVED and no OPEN frame. -/
def standby : State :=
  withFrame (withLane bound 6 { bound.lanes.table.get 6 with openFrame := none, reserved := some 5 }) 5
    { Frame.free with state := .reserved, lane := 6 }

theorem witness_open_reserved :
    RecordDue standby 3 (rec 0) (slotRecord 1 16777216 255) 0 1 2 ∧ standby.slots.table.get 0 = .idle
      ∧ LengthOk (slotRecord 1 16777216 255) ∧ RoutedTo standby (slotRecord 1 16777216 255) 2 6
      ∧ (standby.lanes.table.get 6).openFrame = none
      ∧ (standby.lanes.table.get 6).reserved = some 5 ∧ (standby.frames.table.get 5).state = .reserved
      ∧ (standby.frames.table.get 5).lane = 6 ∧ standby.frames.waitQ = [] ∧ standby.cmd.nextSerial < 2 ^ 48
      ∧ StaysOpen (packRecord standby 6 (standby.lanes.table.get 6).binding) 16777216 := by
  decide +kernel

/-- `filling` with frame 3's fill and count. -/
def packed (fill count : Nat) : State := withFrame filling 3 { openFrame0 with fill := fill, count := count }

theorem witness_packs_close :
    (packed 66056192 1).slots.table.get 1 = .idle ∧ LengthOk (slotRecord 1 1 0)
      ∧ RoutedTo (packed 66056192 1) (slotRecord 1 1 0) 0 0 ∧ HoldsOpen (packed 66056192 1) 0 3
      ∧ (packed 66056192 1).frames.waitQ = [] ∧ RecordDue (packed 66056192 1) 3 (rec 1) (slotRecord 1 1 0) 1 1 1
      ∧ (let f := (packed 66056192 1).frames.table.get 3
         Fits (packed 66056192 1) f 1 ∧ ¬StaysOpen f 1
          ∧ f.params.target * 1048576 ≤ f.fill + allocated 1 f.params.align) := by
  decide +kernel

theorem witness_packs_close_count :
    HoldsOpen (packed 12288 63) 0 3 ∧ RecordDue (packed 12288 63) 3 (rec 1) (slotRecord 1 1 0) 1 1 1
      ∧ (let f := (packed 12288 63).frames.table.get 3
         Fits (packed 12288 63) f 1 ∧ ¬StaysOpen f 1
          ∧ ¬f.params.target * 1048576 ≤ f.fill + allocated 1 f.params.align) := by
  decide +kernel

theorem witness_packs_close_full :
    HoldsOpen (packed 50331648 2) 0 3 ∧ RecordDue (packed 50331648 2) 3 (rec 1) (slotRecord 1 16777216 0) 1 1 2
      ∧ ¬Fits (packed 50331648 2) ((packed 50331648 2).frames.table.get 3) 16777216
      ∧ ¬Fits (packed 0 64) ((packed 0 64).frames.table.get 3) 1
      ∧ (packed 50331648 2).cmd.nextSerial < 2 ^ 48 ∧ FrameFor (packed 50331648 2) 0 0
      ∧ StaysOpen (packRecord (packed 50331648 2) 0 ((packed 50331648 2).lanes.table.get 0).binding) 16777216 :=
  ⟨by decide +kernel, by decide +kernel, by decide +kernel, by decide +kernel, by decide +kernel,
    .inr ⟨by decide +kernel, by decide +kernel, by decide +kernel, fun m hm => absurd hm (Nat.not_lt_zero m.val)⟩,
    by decide +kernel⟩

/-- `filling`, class 2 with lanes of its own, and the tag's entry without a lane. -/
def laneless (s : State) : State :=
  { s with coll := { s.coll with
      classes := put s.coll.classes 2 { base.cls with ownLane := true }
      entries := [{ tag := 0x5A17, cls := 2, pinned := true, listed := true, lane := none },
                  { tag := 8, cls := 2, pinned := false, listed := true, lane := some 6 }] } }

/-- Every lane bound, lane 6 placed in longest ago with frame 4 OPEN, 4,000 seconds back; the lane hold time given. -/
def lanesBound (hold : Nat) : State :=
  let lane (t : Nat) : Lane :=
    { binding := .collection 9 1, openFrame := none, reserved := none, lastPlace := BitVec.ofNat 48 t }
  let s := withFrame (laneless filling) 4 { openFrame0 with lane := 6, mixed := false, cls := 2, tag := 8 }
  { s with lanes := { s.lanes with
      table := put (put (Vector.replicate 32 (lane 50)) 0 (s.lanes.table.get 0)) 6
        { lane 0 with binding := .collection 8 2, openFrame := some 4 }
      tick := 4000, hold := hold } }

theorem witness_lane_bound :
    (laneless base).slots.table.get 20 = .idle ∧ LengthOk (slotRecord 1 1 2) ∧ field (slotRecord 1 1 2) 22 1 = (2 : ClassNo).val
      ∧ ((laneless base).coll.classes.get 2).ownLane = true
      ∧ (laneless base).coll.entries.find? (fun y => y.tag == BitVec.ofNat 32 (field (slotRecord 1 1 2) 8 4))
          = some { tag := 0x5A17, cls := 2, pinned := true, listed := true, lane := none }
      ∧ RecordDue (laneless base) 3 (rec 20) (slotRecord 1 1 2) 20 1 2 ∧ (laneless base).frames.waitQ = []
      ∧ StaysOpen (packRecord (laneless base) 1 (.collection 0x5A17 2)) 1 ∧ FrameFor (laneless base) 1 0
      ∧ ((laneless base).lanes.table.get 1).binding = .unbound ∧ ((laneless base).lanes.table.get 1).openFrame = none
      ∧ (∀ m : LaneNo, m ≠ 0 → m < 1 → ((laneless base).lanes.table.get m).binding ≠ .unbound) :=
  ⟨by decide +kernel, by decide +kernel, by decide +kernel, by decide +kernel, by decide +kernel, by decide +kernel,
    by decide +kernel, by decide +kernel, base_frame_for 1 (by decide +kernel), by decide +kernel, by decide +kernel,
    by decide +kernel⟩

theorem witness_lane_evicted :
    RecordDue (lanesBound 4000) 3 (rec 20) (slotRecord 1 1 2) 20 1 2
      ∧ (∀ m : LaneNo, m ≠ 0 → ((lanesBound 4000).lanes.table.get m).binding ≠ .unbound
          ∧ ((4000 : Seconds) - ((lanesBound 4000).lanes.table.get m).lastPlace).toNat ≤ 4000
          ∧ (m < 6 → ((4000 : Seconds) - ((lanesBound 4000).lanes.table.get m).lastPlace).toNat < 4000))
      ∧ (lanesBound 4000).lanes.hold ≤ ((4000 : Seconds) - ((lanesBound 4000).lanes.table.get 6).lastPlace).toNat
      ∧ ((lanesBound 4000).lanes.table.get 6).binding = .collection 8 2 ∧ HoldsOpen (lanesBound 4000) 6 4
      ∧ ((lanesBound 4000).lanes.table.get 6).reserved = none ∧ LowestFree (lanesBound 4000) 0 :=
  ⟨by decide +kernel, by decide +kernel, by decide +kernel, by decide +kernel, by decide +kernel, by decide +kernel,
    by decide +kernel, by decide +kernel, fun m hm => absurd hm (Nat.not_lt_zero m.val)⟩

theorem witness_lane_zero :
    RecordDue (lanesBound 4001) 3 (rec 20) (slotRecord 1 1 2) 20 1 1
      ∧ (∀ m : LaneNo, m ≠ 0 → ((lanesBound 4001).lanes.table.get m).binding ≠ .unbound
          ∧ ((4000 : Seconds) - ((lanesBound 4001).lanes.table.get m).lastPlace).toNat < (lanesBound 4001).lanes.hold)
      ∧ HoldsOpen (lanesBound 4001) 0 3 ∧ Fits (lanesBound 4001) ((lanesBound 4001).frames.table.get 3) 1
      ∧ StaysOpen ((lanesBound 4001).frames.table.get 3) 1 := by
  decide +kernel

/-- `lanesBound` with its one frame of use SEALED, and slot 2 waiting for lane 6. -/
def lanesWaited : State :=
  let s := withSlot (withFrame (lanesBound 4000) 0 { openFrame0 with state := .sealed }) 2 (.waiting file3 2 6)
  { s with frames := { s.frames with nF := 1, waitQ := [2] } }

theorem witness_lane_evicted_waiting :
    (RecordDue lanesWaited 3 (rec 20) (slotRecord 1 1 2) 20 1 1 ∧ lanesWaited.slots.table.get 20 = .idle
      ∧ lanesWaited.frames.waitQ ≠ []
      ∧ (∀ m : LaneNo, m ≠ 0 → (lanesWaited.lanes.table.get m).binding ≠ .unbound
          ∧ ((4000 : Seconds) - (lanesWaited.lanes.table.get m).lastPlace).toNat ≤ 4000
          ∧ (m < 6 → ((4000 : Seconds) - (lanesWaited.lanes.table.get m).lastPlace).toNat < 4000))
      ∧ (lanesWaited.lanes.table.get 6).binding = .collection 8 2 ∧ HoldsOpen lanesWaited 6 4
      ∧ (lanesWaited.lanes.table.get 6).reserved = none ∧ movedWaiter lanesWaited 6 2 = .waiting file3 2 0)
      ∧ (∀ m, InUse lanesWaited m → (lanesWaited.frames.table.get m).state ≠ .free) := by
  refine ⟨by decide +kernel, fun m h => ?_⟩
  have e : m = 0 := Fin.ext (Nat.lt_one_iff.mp h)
  subst e; decide +kernel

/-- `filling` with an external table of `n` entries, and a search in progress or not. -/
def tabled (n : Nat) (search : Option Search) : State :=
  { filling with coll := { filling.coll with extBase := 0x4000000000, extCount := n, search := search } }

/-- A search that nobody waits for. -/
def orphan : Search := { slot := 9, claimed := false, tag := 3, base := 0x4000000000, count := 10, lo := 0, hi := 9 }

theorem witness_lookups :
    RecordDue (tabled 1 none) 3 (rec 20) (slotRecord 1 1 8) 20 1 1 ∧ (tabled 1 none).slots.table.get 20 = .idle
      ∧ LengthOk (slotRecord 1 1 8) ∧ 8 ≤ field (slotRecord 1 1 8) 22 1
      ∧ (tabled 1 none).coll.entries.find? (fun x => x.tag == 0x5A17) = none ∧ (tabled 1 none).coll.extCount ≠ 0
      ∧ (tabled 1 none).coll.search = none ∧ (tabled 1 none).coll.lookupQ = []
      ∧ 0x4000000000 + (65536 - 1) / 2 * 16 + 16 ≤ 2 ^ 40
      ∧ (tabled 10 (some orphan)).coll.search = some orphan := by
  decide +kernel

theorem witness_lookups_cached :
    (tabled 0 none).coll.extCount = 0 ∧ ((tabled 0 none).coll.classes.get 0).ownLane = false
      ∧ (tabled 0 none).frames.waitQ = [] ∧ HoldsOpen (tabled 0 none) 0 3
      ∧ Fits (tabled 0 none) ((tabled 0 none).frames.table.get 3) 1 ∧ StaysOpen ((tabled 0 none).frames.table.get 3) 1
      ∧ (tabled 0 none).coll.entries.length < 128
      ∧ (let l : List CollEntry := List.replicate 127 { tag := 100, cls := 2, pinned := true, listed := true, lane := none }
         let y : CollEntry := { tag := 7, cls := 2, pinned := false, listed := true, lane := none }
         128 ≤ (l ++ [y]).length ∧ (!y.pinned && y.lane.isNone) = true ∧ ([] : List CollEntry).any (fun y => !y.pinned) = false
          ∧ 128 ≤ (l ++ [{ y with lane := some 4 }]).length
          ∧ (l ++ [{ y with lane := some 4 }]).any (fun y => !y.pinned && y.lane.isNone) = false) := by
  decide +kernel

theorem witness_lookups_served :
    (let s := withSlot (tabled 10 (some orphan)) 30 (.lookup file3)
     let s := { s with
       coll := { s.coll with lookupQ := [30] }
       queue := { s.queue with probes := [{ addr := 0x4000000040, live := true }] } }
     s.queue.probes = [{ addr := 0x4000000040, live := true }] ∧ s.coll.search = some orphan ∧ orphan.claimed = false
      ∧ s.coll.lookupQ = [30] ∧ s.slots.table.get 30 = .lookup file3
      ∧ s.coll.entries.find? (fun x => x.tag == file3.intent.tag) = none ∧ s.coll.extCount ≠ 0
      ∧ s.coll.extBase + (s.coll.extCount - 1) / 2 * 16 + 16 ≤ 2 ^ 40) := by
  decide +kernel

/-- `base` with every frame SEALED. -/
def noFrames : State :=
  { base with frames := { base.frames with table := Vector.replicate 1024 { openFrame0 with state := .sealed, inFlight := 0 } } }

theorem witness_open_waits :
    RecordDue noFrames 3 (rec 20) (slotRecord 1 1 7) 20 1 1 ∧ noFrames.slots.table.get 20 = .idle
      ∧ field (slotRecord 1 1 7) 12 4 = 1 ∧ field (slotRecord 1 1 7) 22 1 = (7 : ClassNo).val
      ∧ (noFrames.coll.classes.get 7).ownLane = false ∧ (noFrames.lanes.table.get 0).openFrame = none
      ∧ (∀ l, (noFrames.lanes.table.get l).reserved = none) ∧ noFrames.frames.waitQ = []
      ∧ noFrames.lowestFree = none := by
  decide +kernel

theorem witness_refused_opens :
    RecordDue queued 3 (rec 1) (slotRecord 1 10 0) 1 1 1 ∧ RecordDue queued 6 (rec 2) (slotRecord 1 10 0) 2 1 1
      ∧ RecordDue filling 6 (rec 40) (slotRecord 1 10 0) 40 1 1 := by
  decide +kernel

theorem witness_refused_lengths :
    RecordDue base 6 (rec 0) (slotRecord 1 0 0) 0 1 1 ∧ base.slots.table.get 0 = .idle
      ∧ field (slotRecord 1 0 0) 12 4 = 0 ∧ RecordDue base 6 (rec 0) (slotRecord 1 16777217 0) 0 1 1
      ∧ 16777216 < field (slotRecord 1 16777217 0) 12 4 := by
  decide +kernel

theorem witness_refused_ends :
    base.slots.table.get 0 = .idle ∧ RecordDue base 6 (rec 0) ([2, 18] ++ zeros 6) 0 2 1 ∧ RecordDue queued 6 (rec 1) ([3, 18] ++ zeros 6) 1 3 1
      ∧ RecordDue queued 6 (rec 2) ([3, 18] ++ zeros 6) 2 3 1 ∧ RecordDue filling 6 (rec 40) ([2, 18] ++ zeros 6) 40 2 1
      ∧ file3.owner ≠ 6 := by
  decide +kernel

theorem witness_ends :
    RecordDue filling 3 (rec 40) ([2, 18] ++ zeros 6) 40 2 2 ∧ RecordDue filling 3 (rec 40) (slotRecord 3 0 0) 40 3 2
      ∧ filling.slots.table.get 40 = .filling file3 0 0 { frame := 3, entry := 0, offset := 0 } ∧ file3.owner = 3
      ∧ ¬((filling.frames.table.get 3).state = .closing ∧ (filling.frames.table.get 3).inFlight - 1 = 0)
      ∧ ((closing 0).frames.table.get 3).state = .closing ∧ ((closing 0).frames.table.get 3).inFlight - 1 = 0
      ∧ RecordDue (closing 0) 3 (rec 40) ([2, 18] ++ zeros 6) 40 2 2 := by
  decide +kernel

/-- A file's account with an extent list, or SCATTERED. -/
def covering (c : Coverage) (void : Bool) : File :=
  { file3 with account := { Account.fresh with coverage := c, digestVoid := void } }

theorem witness_end_reports :
    EndReason.abandoned = .abandoned ∧ EndReason.covered ≠ .abandoned
      ∧ (covering .scattered true).account.digestVoid = true ∧ (covering .scattered false).account.coverage = .scattered
      ∧ (covering (.tracked [{ start := 0, stop := 10000 }]) false).account.coverage
          = .tracked [{ start := 0, stop := file3.intent.length }]
      ∧ ([{ start := 1, stop := 10000 }] : List Extent) ≠ [{ start := 0, stop := file3.intent.length }] := by
  decide

theorem witness_queued_ends :
    RecordDue queued 3 (rec 1) ([2, 18] ++ zeros 6) 1 2 1 ∧ queued.slots.table.get 1 = .lookup file3
      ∧ (let s := { noFrames with
           slots := queued.slots, frames := { noFrames.frames with waitQ := [2] } }
         RecordDue s 3 (rec 2) ([3, 18] ++ zeros 6) 2 3 1 ∧ s.slots.table.get 2 = .waiting file3 0 0
          ∧ s.frames.waitQ = [2] ∧ s.lowestFree = none)
      ∧ ([2, 7] : List SlotNo).filter (fun j => j != 2) ≠ [] := by
  decide +kernel

/-- A write of `n` bytes at offset `off` meets the `m` bytes from `a` on. -/
abbrev touches (off n a m : Nat) : Prop := off < a + m ∧ a < off + n

theorem witness_control_writes :
    RoomFor base 0 ∧ AtControl base 5 (rec 511) ([4, 0] ++ zeros 6) (0x1000 + (511 : SlotNo).val * 64)
      ∧ 3 < field ([4, 0] ++ zeros 6) 0 1 ∧ field ([1, 0] ++ zeros 6) 0 1 = 1 ∧ ([1, 0] ++ zeros 6).length = 8
      ∧ AtControl base 5 (rec 0) (zeros 8) (0x1000 + (0 : SlotNo).val * 64) ∧ field (zeros 8) 0 1 = 0
      ∧ AtControl base 5 (ctl 0xBC0) (zeros 64) 0xBC0 ∧ 0xBC0 % 64 = 0 ∧ field (zeros 64) 0 1 = 0
      ∧ AtControl base 5 (ctl 0x7C0) (zeros 64) 0x7C0 := by
  decide +kernel

theorem witness_malformed_controls :
    AtControl base 5 (ctl 0x8FFF) (zeros 1) 0x8FFF ∧ touches 0x8FFF 1 0x1000 0x8000
      ∧ AtControl base 5 (ctl 0x1020) (zeros 64) 0x1020 ∧ touches 0x1020 64 0x1000 0x8000 ∧ 0x1020 % 64 ≠ 0
      ∧ AtControl base 5 (ctl 0x1008) (zeros 8) 0x1008 ∧ AtControl base 5 (ctl 0x1000) (zeros 9) 0x1000
      ∧ AtControl base 5 (ctl 0x401) (zeros 64) 0x401 ∧ AtControl base 5 (ctl 0xBC0) (zeros 63) 0xBC0
      ∧ AtControl base 5 (ctl 0x3FF) (zeros 2) 0x3FF ∧ touches 0x3FF 2 0x0400 0x0400 ∧ ¬0x0400 ≤ 0x3FF := by
  decide +kernel

theorem witness_words_and_plain_areas :
    AtControl base 5 (ctl 0xC00) (zeros 4) 0xC00 ∧ touches 0xC00 4 0x0C00 8
      ∧ AtControl base 5 (ctl 0xC07) (zeros 1) 0xC07 ∧ touches 0xC07 1 0x0C00 8
      ∧ AtControl base 5 (ctl 0) (zeros 512) 0 ∧ ¬touches 0 512 0x0400 0x0400
      ∧ AtControl base 5 (ctl 0xC08) (zeros 8) 0xC08 ∧ ¬touches 0xC08 8 0x0C00 8 ∧ ¬touches 0xC08 8 0x1000 0x8000
      ∧ AtControl base 5 (ctl 0x9000) (zeros 1) 0x9000 ∧ ¬touches 0x9000 1 0x1000 0x8000 := by
  decide +kernel

/-- `filling` with the file covered but for its first 512 bytes, and a given CLOSE_REQUIRED. -/
def nearlyFull (close : Bool) : File :=
  { covering (.tracked [{ start := 512, stop := 10000 }]) false with
    intent := { file3.intent with closeRequired := close } }

/-- Slot 40 holding a given file of `filling`. -/
def fillingWith (f : File) : State :=
  withSlot filling 40 (.filling f 0 0 { frame := 3, entry := 0, offset := 0 })

theorem witness_data_recorded :
    SlotDue filling 3 (slotAt 40 9728) (zeros 512).length 40 9728 ∧ file3.owner = 3 ∧ 9728 < file3.intent.length
      ∧ RoomFor filling 0 ∧ (file3.recordWrite 9728 ((zeros 512).take 272) 240).covered = false
      ∧ SlotDue (fillingWith (nearlyFull true)) 3 (slotAt 40 0) (zeros 512).length 40 0
      ∧ ((nearlyFull true).recordWrite 0 (zeros 512) 0).covered = true
      ∧ (nearlyFull true).intent.closeRequired = true := by
  decide +kernel

theorem witness_recording :
    (covering .scattered false).account.coverage = .scattered
      ∧ (covering (.tracked []) false).account.coverage = .tracked []
      ∧ ((covering (.tracked [{ start := 0, stop := 8 }]) false).recordWrite 7 [1] 0).account.digestVoid = true
      ∧ ((covering (.tracked [{ start := 0, stop := 8 }]) false).recordWrite 8 [1] 0).account.digestVoid = false := by
  decide +kernel

theorem witness_full_coverage :
    SlotDue (fillingWith (nearlyFull false)) 3 (slotAt 40 0) (zeros 512).length 40 0
      ∧ (fillingWith (nearlyFull false)).slots.table.get 40
          = .filling (nearlyFull false) 0 0 { frame := 3, entry := 0, offset := 0 }
      ∧ (nearlyFull false).owner = 3 ∧ 0 < (nearlyFull false).intent.length ∧ RoomFor filling 2
      ∧ ((nearlyFull false).recordWrite 0 (zeros 512) 0).covered = true
      ∧ (nearlyFull false).intent.closeRequired = false := by
  decide +kernel

theorem witness_retry_room :
    NoRoom (crowded passive) 0 ∧ (crowded passive).loader.state = .passive ∧ NoRoom (crowded base) 0
      ∧ Hears (crowded base) 5 ∧ base.decoder.place (0x700000000FFF : UpAddr).toNat = .pass 0 0x8000000FFF false
      ∧ InUse (crowded base) 15 ∧ ((crowded base).frames.table.get 15).state = .free
      ∧ (crowded base).decoder.place (packAt (15 * 2 ^ 26)).toNat = .pack ((15 : FrameNo).val * 2 ^ 26 + 0)
      ∧ Hears (crowded passage) 5 ∧ (crowded passage).decoder.place 0xFFFFFFFE00 = .unclaimed
      ∧ SlotDue (crowded filling) 3 (slotAt 40 9999) 512 40 9999
      ∧ placedFile ((crowded filling).slots.table.get 40) = some (file3, { frame := 3, entry := 0, offset := 0 }) := by
  decide +kernel

theorem witness_retry_own :
    NoRoom fullOwn 1 ∧ AtControl fullOwn 3 (rec 0) (slotRecord 1 1 0) (0x1000 + (0 : SlotNo).val * 64)
      ∧ NoRoom (short filling) 2 ∧ AtControl (short filling) 3 (rec 40) ([2, 18] ++ zeros 6) (0x1000 + (40 : SlotNo).val * 64)
      ∧ placedFile ((short filling).slots.table.get 40) = some (file3, { frame := 3, entry := 0, offset := 0 })
      ∧ SlotDue (short (fillingWith (nearlyFull false))) 3 (slotAt 40 0) (zeros 512).length 40 0
      ∧ ((nearlyFull false).recordWrite 0 ((zeros 512).take 512) 0).covered = true := by
  decide +kernel

theorem witness_retry_open :
    NoRoom (short base) 2 ∧ AtControl (short base) 3 (rec 20) (slotRecord 1 10000 0) (0x1000 + (20 : SlotNo).val * 64)
      ∧ (short base).slots.table.get 20 = .idle ∧ RoutedTo (short base) (slotRecord 1 10000 0) 0 0
      ∧ ((short base).lanes.table.get 0).openFrame = none ∧ FrameFor (short base) 0 0 :=
  ⟨by decide +kernel, by decide +kernel, by decide +kernel, by decide +kernel, by decide +kernel,
    base_frame_for 0 (by decide +kernel)⟩

theorem witness_data_dropped :
    SlotDue filling 3 (slotAt 40 10000) 64 40 10000 ∧ file3.intent.length ≤ 10000
      ∧ SlotDue filling 6 (slotAt 40 0) 64 40 0 ∧ (filling.slots.table.get 40).file? = some file3 ∧ file3.owner ≠ 6
      ∧ SlotDue filling 6 (slotAt 0 0) 64 0 0 ∧ filling.slots.table.get 0 = .idle := by
  decide +kernel

/-! ### Witnesses: the twelve commands -/

/-- A command cell address. -/
def cmdAt (c : Nat) : UpAddr := ctl (0x400 + c * 64)

/-- A collection-table entry. -/
def entry (tag : Tag) (pinned : Bool) (lane : Option LaneNo) : CollEntry :=
  { tag := tag, cls := 2, pinned := pinned, listed := true, lane := lane }

/-- A full table, the least recent entry CACHED or not. -/
def fullTable (lastPinned : Bool) : State :=
  { base with coll := { base.coll with
      entries := (List.range 127).map (fun i => entry (BitVec.ofNat 32 (i + 100)) true none) ++ [entry 7 lastPinned none] } }

theorem witness_register :
    base.cmd.frozen = false ∧ CommandDue base 0 (cmdAt 15) (cell 1 [(8, le 4 5), (12, le 1 8)]) 15 1
      ∧ 8 ≤ field (cell 1 [(8, le 4 5), (12, le 1 8)]) 12 1
      ∧ field (cell 1 [(8, le 4 5), (12, le 1 7)]) 12 1 = (7 : ClassNo).val
      ∧ base.coll.entries.find? (fun x => x.tag == BitVec.ofNat 32 5) = none ∧ base.coll.entries.length < 128
      ∧ (bound.coll.entries.find? (fun x => x.tag == 0x5A17)).map (fun x => x.cls) = some 2
      ∧ (fullTable true).coll.entries.find? (fun x => x.tag == BitVec.ofNat 32 5) = none
      ∧ 128 ≤ (fullTable true).coll.entries.length ∧ (fullTable true).coll.entries.all (fun x => x.pinned) = true
      ∧ (fullTable false).coll.entries.reverse.find? (fun y => !y.pinned) = some (entry 7 false none)
      ∧ CommandDue (fullTable false) 0 (cmdAt 0) (cell 2 [(8, le 4 7)]) 0 2
      ∧ (fullTable false).coll.entries.find? (fun x => x.tag == BitVec.ofNat 32 7) = some (entry 7 false none) := by
  decide +kernel

theorem witness_reclass :
    bound.cmd.frozen = false ∧ bound.coll.entries.find? (fun y => y.tag == 0x5A17)
        = some { tag := 0x5A17, cls := 2, pinned := false, listed := true, lane := some 6 }
      ∧ (bound.lanes.table.get 6).binding = .collection 0x5A17 2 ∧ HoldsOpen bound 6 4
      ∧ (bound.lanes.table.get 6).reserved = none ∧ bound.frames.waitQ = []
      ∧ CommandDue bound 0 (cmdAt 0) (cell 2 [(8, le 4 0x5A17)]) 0 2
      ∧ CommandDue bound 0 (cmdAt 0) (cell 1 [(8, le 4 0x5A17), (12, le 1 0)]) 0 1
      ∧ field (cell 1 [(8, le 4 0x5A17), (12, le 1 0)]) 12 1 = (0 : ClassNo).val
      ∧ (0x5A17 : Tag) = BitVec.ofNat 32 (field (cell 1 [(8, le 4 0x5A17), (12, le 1 0)]) 8 4) := by
  decide +kernel

/-- A full table whose least recent entry that is not PINNED is bound to lane 6. -/
def boundFull : State :=
  { bound with coll := { bound.coll with
      entries := (List.range 127).map (fun i => entry (BitVec.ofNat 32 (i + 100)) true none) ++ [entry 0x5A17 false (some 6)] } }

theorem witness_reclass_evicts :
    boundFull.cmd.frozen = false
      ∧ boundFull.coll.entries.find? (fun y => y.tag == 0x5A17) = some (entry 0x5A17 false (some 6))
      ∧ (boundFull.lanes.table.get 6).binding = .collection 0x5A17 2 ∧ HoldsOpen boundFull 6 4
      ∧ (boundFull.lanes.table.get 6).reserved = none ∧ boundFull.frames.waitQ = []
      ∧ boundFull.coll.entries.find? (fun y => y.tag == BitVec.ofNat 32 5) = none
      ∧ CommandDue boundFull 0 (cmdAt 0) (cell 1 [(8, le 4 5), (12, le 1 7)]) 0 1 ∧ 128 ≤ boundFull.coll.entries.length
      ∧ boundFull.coll.entries.reverse.find? (fun y => !y.pinned) = some (entry 0x5A17 false (some 6)) := by
  decide +kernel

/-- `bound` with slot 2 waiting for lane 6. -/
def boundWaited : State :=
  let s := withSlot bound 2 (.waiting file3 2 6)
  { s with frames := { s.frames with waitQ := [2] } }

theorem witness_reclass_waiters :
    boundWaited.cmd.frozen = false
      ∧ boundWaited.coll.entries.find? (fun y => y.tag == 0x5A17)
        = some { tag := 0x5A17, cls := 2, pinned := false, listed := true, lane := some 6 }
      ∧ (boundWaited.lanes.table.get 6).openFrame = some 4 ∧ HoldsOpen boundWaited 6 4
      ∧ (boundWaited.lanes.table.get 6).reserved = none ∧ movedWaiter boundWaited 6 2 = .waiting file3 2 0
      ∧ CommandDue boundWaited 0 (cmdAt 0) (cell 2 [(8, le 4 0x5A17)]) 0 2 := by
  decide +kernel

/-- `fates` with the entry of lane 6, which holds frame 5 RESERVED. -/
def standingBy : State := { fates with coll := { fates.coll with entries := [entry 0x5A17 true (some 6)] } }

theorem witness_reclass_standby :
    (standingBy.cmd.frozen = false ∧ standingBy.coll.entries.find? (fun y => y.tag == 0x5A17) = some (entry 0x5A17 true (some 6))
      ∧ (standingBy.lanes.table.get 6).binding = .collection 0x5A17 2 ∧ (standingBy.lanes.table.get 6).reserved = some 5
      ∧ standingBy.frames.waitQ = [] ∧ CommandDue standingBy 0 (cmdAt 0) (cell 2 [(8, le 4 0x5A17)]) 0 2)
      ∧ HeldOk standingBy :=
  ⟨by decide +kernel, witness_held⟩

theorem witness_drain_standby :
    (CommandDue fates 0 (cmdAt 0) (cell 9 [(8, le 1 6)]) 0 9 ∧ bitAt (cell 9 [(8, le 1 6)]) 9 0 = false
      ∧ field (cell 9 [(8, le 1 6)]) 8 1 = (6 : LaneNo).val ∧ (fates.lanes.table.get 6).reserved = some 5
      ∧ fates.frames.waitQ = [] ∧ CommandDue fates 0 (cmdAt 0) (cell 9 [(9, [1])]) 0 9
      ∧ bitAt (cell 9 [(9, [1])]) 9 0 = true ∧ (fates.frames.table.get 3).inFlight ≠ 0)
      ∧ HeldOk fates ∧ (∀ l n, (fates.lanes.table.get l).openFrame = some n → HoldsOpen fates l n) :=
  ⟨by decide +kernel, witness_held, fun l n h => ⟨h, witness_held.1 l n h⟩⟩

theorem witness_configuring :
    base.cmd.frozen = false ∧ CommandDue base 0 (cmdAt 0) (cell 3 [(8, le 1 8)]) 0 3 ∧ 8 ≤ field (cell 3 [(8, le 1 8)]) 8 1
      ∧ field (cell 3 [(8, le 1 7)]) 8 1 = (7 : ClassNo).val ∧ CommandDue base 0 (cmdAt 0) (cell 4 []) 0 4
      ∧ CommandDue base 0 (cmdAt 0) (cell 5 []) 0 5 := by
  decide +kernel

/-- `base` with the next serial 1. -/
def raised : State := { base with cmd := { base.cmd with nextSerial := 1 } }

theorem witness_serials :
    base.cmd.frozen = false ∧ CommandDue base 0 (cmdAt 0) (cell 6 []) 0 6
      ∧ base.cmd.nextSerial ≤ field (cell 6 []) 8 6
      ∧ CommandDue raised 0 (cmdAt 0) (cell 6 []) 0 6 ∧ field (cell 6 []) 8 6 < raised.cmd.nextSerial := by
  decide +kernel

theorem witness_running :
    CommandDue base 0 (cmdAt 0) (cell 7 []) 0 7 ∧ CommandDue base 0 (cmdAt 0) (cell 8 []) 0 8
      ∧ CommandDue base 0 (cmdAt 0) (cell 9 [(8, le 1 32)]) 0 9 ∧ bitAt (cell 9 [(8, le 1 32)]) 9 0 = false
      ∧ 32 ≤ field (cell 9 [(8, le 1 32)]) 8 1 ∧ field (cell 9 [(8, le 1 31)]) 8 1 = (31 : LaneNo).val
      ∧ (base.lanes.table.get 31).reserved = none ∧ (base.lanes.table.get 31).openFrame = none
      ∧ HoldsOpen bound 6 4 ∧ CommandDue bound 0 (cmdAt 0) (cell 9 [(8, le 1 6)]) 0 9 := by
  decide +kernel

theorem witness_drain_all :
    CommandDue bound 0 (cmdAt 0) (cell 9 [(9, [1])]) 0 9 ∧ bitAt (cell 9 [(9, [1])]) 9 0 = true ∧ bound.frames.waitQ = []
      ∧ (∀ l : LaneNo, (bound.lanes.table.get l).openFrame.all (fun n => decide (HoldsOpen bound l n)) = true) := by
  decide +kernel

/-- `base` frozen. -/
def frozen : State := { base with cmd := { base.cmd with frozen := true } }

theorem witness_freezing :
    frozen.cmd.frozen = true ∧ CommandDue frozen 0 (cmdAt 0) (cell 1 []) 0 1 ∧ CommandDue frozen 0 (cmdAt 0) (cell 6 []) 0 6
      ∧ CommandDue frozen 0 (cmdAt 0) (cell 255 []) 0 255 := by
  decide +kernel

theorem witness_freeze_and_codes :
    frozen.cmd.frozen = true ∧ CommandDue base 0 (cmdAt 0) (cell 13 []) 0 13
      ∧ CommandDue base 0 (cmdAt 0) (cell 10 []) 0 10 ∧ base.cmd.frozen = false
      ∧ CommandDue frozen 0 (cmdAt 0) (cell 10 []) 0 10 := by
  decide +kernel

/-- `base` with frame 8 finished, SEALED or HELD, assigned pools 1 and 3. -/
def finished (state : FrameState) (confirmed : PoolSet) (mismatches : Nat) : State :=
  withFrame base 8 { openFrame0 with
    state := state, serial := 6130, inFlight := 0, assigned := 10, confirmed := confirmed, mismatches := mismatches,
    body := { s := 201, p := 1939 } }

theorem witness_held_commands :
    CommandDue base 0 (cmdAt 0) (cell 11 [(8, le 2 16)]) 0 11 ∧ base.frames.nF ≤ field (cell 11 [(8, le 2 16)]) 8 2
      ∧ CommandDue (finished .held 2 3) 0 (cmdAt 0) (cell 11 [(8, le 2 8)]) 0 11
      ∧ CommandDue (finished .held 2 3) 0 (cmdAt 0) (cell 12 [(8, le 2 8)]) 0 12
      ∧ InUse (finished .held 2 3) 8 ∧ field (cell 12 [(8, le 2 8)]) 8 2 = (8 : FrameNo).val
      ∧ ((finished .held 2 3).frames.table.get 8).state = .held ∧ (finished .held 2 3).frames.waitQ = []
      ∧ (∀ l, ((finished .held 2 3).lanes.table.get l).openFrame = none)
      ∧ ((finished .sealed 2 3).frames.table.get 8).state ≠ .held := by
  decide +kernel

/-! ### Witnesses: confirms and the consumer index -/

/-- A confirm cell address. -/
def confirmAt (c : Nat) : UpAddr := ctl (0x800 + c * 64)

/-- A confirm of frame 8 for a pool, with a serial, a digest-present byte and a digest. -/
def confirmOf (frame serial pool present digest : Nat) : List Byte :=
  record 64 [(0, [1]), (8, le 6 serial), (14, le 2 frame), (16, le 1 pool), (17, le 1 present), (20, le 4 digest)]

theorem witness_confirms :
    ConfirmDue (finished .sealed 0 0) 7 (confirmAt 15) (confirmOf 8 6130 3 1 127074505) 15
      ∧ InUse (finished .sealed 0 0) 8 ∧ field (confirmOf 8 6130 3 1 127074505) 14 2 = (8 : FrameNo).val
      ∧ (let f := (finished .sealed 0 0).frames.table.get 8
         let d := confirmOf 8 6130 3 1 127074505
         f.state = .sealed ∧ field d 8 6 = f.serial ∧ field d 16 1 = (3 : PoolNo).val ∧ f.assigned.getLsbD 3 = true
          ∧ bitAt d 17 0 = true ∧ BitVec.ofNat 32 (field d 20 4) = f.body.digest)
      ∧ (0 ||| BitVec.ofNat 4 (2 ^ 3) : PoolSet) ≠ 10 ∧ (2 ||| BitVec.ofNat 4 (2 ^ 3) : PoolSet) = 10
      ∧ (finished .sealed 2 0).frames.waitQ = [] := by
  decide +kernel

theorem witness_mismatches :
    ConfirmDue (finished .sealed 0 2) 7 (confirmAt 0) (confirmOf 8 6130 1 1 127074504) 0
      ∧ (let f := (finished .sealed 0 2).frames.table.get 8
         let d := confirmOf 8 6130 1 1 127074504
         f.state = .sealed ∧ field d 8 6 = f.serial ∧ field d 16 1 = (1 : PoolNo).val ∧ f.assigned.getLsbD 1 = true
          ∧ bitAt d 17 0 = true ∧ BitVec.ofNat 32 (field d 20 4) ≠ f.body.digest ∧ f.mismatches + 1 = 3)
      ∧ ((finished .sealed 0 0).frames.table.get 8).mismatches + 1 ≠ 3 := by
  decide +kernel

theorem witness_refused_confirms :
    ConfirmDue base 7 (confirmAt 0) (confirmOf 16 0 0 0 0) 0 ∧ base.frames.nF ≤ field (confirmOf 16 0 0 0 0) 14 2
      ∧ (let f := (finished .sealed 0 0).frames.table.get 8
         ((finished .held 0 3).frames.table.get 8).state ≠ .sealed
          ∧ f.state = .sealed ∧ field (confirmOf 8 6129 1 1 0) 8 6 ≠ f.serial
          ∧ field (confirmOf 8 6130 0 1 0) 8 6 = f.serial ∧ f.assigned.getLsbD 0 = false
          ∧ field (confirmOf 8 6130 1 0 0) 16 1 = (1 : PoolNo).val ∧ f.assigned.getLsbD 1 = true
          ∧ bitAt (confirmOf 8 6130 1 0 0) 17 0 = false) := by
  decide +kernel

/-- Frame 0, the only one, finished, and slots 1 and 2 waiting for a frame of lane 0. -/
def starved (state : FrameState) (queue : List SlotNo) : State :=
  let s := withFrame base 0 { openFrame0 with
    state := state, serial := 6130, inFlight := 0, assigned := 10, confirmed := 2, body := { s := 201, p := 1939 } }
  let s := withSlot (withSlot s 1 (.waiting file3 0 0)) 2 (.waiting file3 0 0)
  { s with frames := { s.frames with nF := 1, waitQ := queue } }

theorem starved_held : HeldOk (starved .held [1]) := by
  have lane : ∀ l, (starved .held [1]).lanes.table.get l
      = if l = 0 then { Lane.unbound with binding := .mixed } else Lane.unbound := by decide +kernel
  have frame : ∀ n, ((starved .held [1]).frames.table.get n).state = if (0 : FrameNo) = n then .held else .free := by
    intro n
    have h : base.frames.table.get n = Frame.free := by simp [base, State.reset, Vector.get]
    simp only [starved, withFrame, withSlot, get_put, h]
    split <;> rfl
  refine ⟨fun l n h => ?_, fun l n h => ?_, fun n h => ?_, fun n h => ?_⟩ <;>
    simp only [lane, frame] at h <;> split at h <;> simp_all [Lane.unbound]

theorem witness_granted :
    (starved .held [1]).frames.waitQ = [1] ∧ (starved .held [1]).slots.table.get 1 = .waiting file3 0 0
      ∧ (∀ m, InUse (starved .held [1]) m → ((starved .held [1]).frames.table.get m).state ≠ .free)
      ∧ InUse (starved .held [1]) 0 ∧ ((starved .held [1]).lanes.table.get 0).openFrame = none
      ∧ (starved .held [1]).cmd.nextSerial < 2 ^ 48 ∧ StaysOpen (packRecord (starved .held [1]) 0 .mixed) 10000
      ∧ CommandDue (starved .held [1]) 0 (cmdAt 0) (cell 12 []) 0 12 ∧ field (cell 12 []) 8 2 = (0 : FrameNo).val
      ∧ ((starved .held [1]).frames.table.get 0).state = .held ∧ (starved .held [1, 2]).frames.waitQ = [1, 2]
      ∧ (let one := withFile (packRecord (starved .held [1, 2]) 0 .mixed) 10000 0
         Fits (starved .held [1, 2]) one 10000 ∧ StaysOpen one 10000
          ∧ ¬Fits (starved .held [1, 2]) { one with count := 64 } 10000) := by
  refine ⟨by decide +kernel, by decide +kernel, fun m h => ?_, by decide +kernel, by decide +kernel, by decide +kernel,
    by decide +kernel, by decide +kernel, by decide +kernel, by decide +kernel, by decide +kernel, by decide +kernel⟩
  have e : m = 0 := Fin.ext (Nat.lt_one_iff.mp h)
  subst e; decide +kernel

theorem witness_granted_by_confirm :
    ConfirmDue (starved .sealed [1]) 7 (confirmAt 4) (confirmOf 0 6130 3 1 127074505) 4
      ∧ (let f := (starved .sealed [1]).frames.table.get 0
         let d := confirmOf 0 6130 3 1 127074505
         field d 14 2 = (0 : FrameNo).val ∧ f.state = .sealed ∧ field d 8 6 = f.serial ∧ bitAt d 17 0 = true
          ∧ BitVec.ofNat 32 (field d 20 4) = f.body.digest ∧ field d 16 1 = (3 : PoolNo).val
          ∧ f.assigned.getLsbD 3 = true ∧ f.confirmed ||| BitVec.ofNat 4 (2 ^ 3) = f.assigned) := by
  decide +kernel

/-- Frame 0, the only one, RESERVED in lane 6. -/
def surrendered : State :=
  let s := withLane (withFrame base 0 { Frame.free with state := .reserved, lane := 6 }) 6
    { binding := .collection 0x5A17 2, openFrame := none, reserved := some 0, lastPlace := 0 }
  { s with frames := { s.frames with nF := 1 } }

theorem witness_surrender :
    surrendered.frames.waitQ = [] ∧ RecordDue surrendered 3 (rec 20) (slotRecord 1 10000 0) 20 1 2
      ∧ surrendered.slots.table.get 20 = .idle ∧ RoutedTo surrendered (slotRecord 1 10000 0) 0 0
      ∧ (surrendered.lanes.table.get 0).openFrame = none ∧ (surrendered.lanes.table.get 0).reserved = none
      ∧ (∀ m, InUse surrendered m → (surrendered.frames.table.get m).state ≠ .free) ∧ InUse surrendered 0
      ∧ (surrendered.frames.table.get 0).state = .reserved ∧ surrendered.cmd.nextSerial < 2 ^ 48
      ∧ StaysOpen (packRecord surrendered 0 .mixed) 10000 ∧ HeldOk surrendered := by
  refine ⟨by decide +kernel, by decide +kernel, by decide +kernel, by decide +kernel, by decide +kernel, by decide +kernel,
    fun m h => ?_, by decide +kernel, by decide +kernel, by decide +kernel, by decide +kernel, ?_⟩
  · have e : m = 0 := Fin.ext (Nat.lt_one_iff.mp h)
    subst e; decide +kernel
  · have lane : ∀ l, surrendered.lanes.table.get l
        = if (6 : LaneNo) = l then { binding := .collection 0x5A17 2, openFrame := none, reserved := some 0, lastPlace := 0 }
          else if (0 : LaneNo) = l then { Lane.unbound with binding := .mixed } else Lane.unbound := by decide +kernel
    have frame : ∀ n, surrendered.frames.table.get n
        = if (0 : FrameNo) = n then { Frame.free with state := .reserved, lane := 6 } else Frame.free := by
      intro n
      have h : base.frames.table.get n = Frame.free := by simp [base, State.reset, Vector.get]
      simp only [surrendered, withFrame, withLane, get_put, h]
    refine ⟨fun l n h => ?_, fun l n h => ?_, fun n h => ?_, fun n h => ?_⟩ <;>
      simp only [lane, frame] at h ⊢ <;> repeat' split at h
    all_goals simp_all [Lane.unbound, Frame.free]

/-- `base` with a ring whose consumer stands at 5 and producer at 4, FAULTED. -/
def ring : State :=
  { base with notes := { base.notes with producer := 4, consumer := 5, lap := true, faulted := true, keptClears := [1] } }

theorem witness_consumer_index :
    AtControl ring 0 (ctl 0xC00) (le 8 4) 0x0C00 ∧ (le 8 4).length = 8 ∧ RoomFor ring 0
      ∧ ((BitVec.ofNat 10 (field (le 8 4) 0 8) : RingPos) - ring.notes.consumer).toNat
          ≤ (ring.notes.producer - ring.notes.consumer).toNat
      ∧ (let s := { ring with notes := { ring.notes with consumer := 3 } }
         (s.notes.producer - s.notes.consumer).toNat
          < ((BitVec.ofNat 10 (field (le 8 5) 0 8) : RingPos) - s.notes.consumer).toNat) := by
  decide +kernel

/-- `n` ROUTINE notices behind `m` URGENT ones. -/
def waitingNotices (m n : Nat) : List Notice :=
  List.replicate m { time := 0, body := .packHeld 1 2 true } ++ List.replicate n { time := 0, body := .framesAvailable 1 }

theorem witness_notices_wait :
    (waitingNotices 16 15).length < 32 ∧ 32 ≤ (waitingNotices 16 16).length ∧ 32 ≤ (waitingNotices 32 0).length
      ∧ (∀ m ∈ waitingNotices 32 0, m.kind = .packHeld)
      ∧ waitingNotices 16 16 = waitingNotices 16 0 ++ { time := 0, body := .framesAvailable 1 } :: waitingNotices 0 15
      ∧ waitingNotices 1 31 = waitingNotices 1 0 ++ { time := 0, body := .framesAvailable 1 } :: waitingNotices 0 30
      ∧ (Notice.kind { time := 0, body := .stray 3 1 0 }) = .stray := by
  decide +kernel

/-! ### Witnesses: the store port -/

/-- `base` with an unsent write and a read held behind it. -/
def held (cancelled : Bool) : State :=
  { base with
    queue := { base.queue with unsent := [{ origin := .upstream 5 (.pack 2) (packAt 0), countsFor := some 5, addr := 0,
                                            data := [1], cancelled := cancelled }] }
    port := { base.port with awaiting := put base.port.awaiting 5 (some (.held { requester := 5, addr := 0, len := 1, pad := 0 })) } }

theorem witness_write_send :
    base.loader.state = .active ∧ base.queue.unsent = [] ∧ (held false).loader.state = .active
      ∧ (held false).queue.unsent.length = 1 ∧ (held false).queue.unsent.all (fun x => x.cancelled) = false
      ∧ (held true).queue.unsent.all (fun x => x.cancelled && x.origin == .upstream 5 (.pack 2) (packAt 0)) = true := by
  decide +kernel

/-- An upstream write that came in at `origin`. -/
def upEntry (origin : UpOrigin) : Entry := upstreamEntry 3 origin (slotAt 40 0) (2 ^ 36) [1]

theorem witness_upstream_answers :
    (withSent filling (upEntry .control)).queue.sent = [upEntry .control]
      ∧ (upEntry .passive).origin = .upstream 3 .passive (slotAt 40 0)
      ∧ (withSent filling (upEntry (.slotData 40 3 0))).loader.state = .active
      ∧ ((withSent filling (upEntry (.slotData 40 3 0))).frames.table.get 3).state ≠ .free
      ∧ ((withSent filling (upEntry (.slotData 40 3 0))).frames.table.get 3).state ≠ .reserved := by
  decide +kernel

theorem witness_own_answers :
    (withSent sealing (ownEntry (.statusWord 511))).queue.sent = [ownEntry (.statusWord 511)]
      ∧ (ownEntry (.confirmStatus 15)).origin = .own (.confirmStatus 15)
      ∧ (ownEntry (.commandStatus 0)).origin = .own (.commandStatus 0)
      ∧ (ownEntry .description).origin = .own .description ∧ (ownEntry .passiveRecord).origin = .own .passiveRecord
      ∧ (ownEntry (.openHeader 3 1)).origin = .own (.openHeader 3 1)
      ∧ (ownEntry (.indexEntry 3 0 1)).origin = .own (.indexEntry 3 0 1)
      ∧ (sealing.frames.table.get 3).state ≠ .free ∧ (sealing.frames.table.get 3).state ≠ .reserved := by
  decide +kernel

theorem witness_seal_answers :
    (withSent sealing (ownEntry (.sealHeader 3 4410))).loader.state = .active
      ∧ (sealing.frames.table.get 3).state = .sealing ∧ (sealing.frames.table.get 3).fault = false
      ∧ ((withFrame sealing 3 { sealing.frames.table.get 3 with fault := true }).frames.table.get 3).fault = true := by
  decide +kernel

/-- `base` with a notice pending, its ring write sent. -/
def writing : State :=
  let s := withSent base (ownEntry .notice)
  { s with notes := { s.notes with pending := [{ time := 0, body := .framesAvailable 1 }], writing := .made 0,
                                   producer := 1023, consumer := 1023 } }

theorem witness_ring_answers :
    writing.queue.sent = [ownEntry .notice] ∧ writing.notes.pending = [{ time := 0, body := .framesAvailable 1 }]
      ∧ writing.notes.writing = .made 0 ∧ (ownEntry (.clearing 1023)).origin = .own (.clearing 1023) := by
  decide +kernel

/-- `base` with a read outstanding. -/
def reading (live : Bool) : State :=
  { base with
    queue := { base.queue with reads := [{ read := { requester := 5, addr := 0, len := 2, pad := 1 }, live := live }] }
    port := { base.port with awaiting := put base.port.awaiting 5 (some .sent) } }

theorem witness_read_answers :
    (reading true).queue.reads.length = 1 ∧ (reading true).queue.reads.all (fun x => x.live && x.read.len == 2) = true
      ∧ (zeros 2).length = 2 ∧ (reading false).queue.reads.all (fun x => !x.live) = true := by
  decide +kernel

/-- `filling` with a search of a table of ten entries for slot 30 (section 5.3's example), at bounds lo and hi. -/
def searching (lo hi : Nat) (claimed live : Bool) : State :=
  let s := withSlot filling 30 (.lookup { file3 with intent := { file3.intent with tag := 0x777 } })
  { s with
    queue := { s.queue with probes := [{ addr := 0x4000000000 + (lo + hi) / 2 * 16, live := live }] }
    coll := { s.coll with
      lookupQ := if claimed then [30] else []
      search := some { slot := 30, claimed := claimed, tag := 0x777, base := 0x4000000000, count := 10, lo := lo, hi := hi } } }

theorem witness_probe_answers :
    (searching 0 9 true false).queue.probes.all (fun x => !x.live) = true
      ∧ (searching 0 9 true true).queue.probes.all (fun x => x.live) = true
      ∧ (searching 0 9 true true).coll.search = some { slot := 30, claimed := true, tag := 0x777, base := 0x4000000000,
                                                        count := 10, lo := 0, hi := 9 }
      ∧ (0x515 : Tag) < 0x777 ∧ (0 + 9) / 2 + 1 ≤ 9 ∧ (0x777 : Tag) < 0x800 ∧ 5 < (5 + 9) / 2 ∧ 6 < (6 + 6) / 2 + 1
      ∧ 0x4000000000 + (5 + 9) / 2 * 16 + 16 ≤ 2 ^ 40 ∧ (searching 6 6 false true).coll.lookupQ = []
      ∧ (searching 6 6 true true).coll.entries.find? (fun y => y.tag == 0x777) = none
      ∧ (searching 6 6 true true).coll.lookupQ = [30] ∧ (searching 6 6 true true).frames.waitQ = [] := by
  decide +kernel

theorem witness_probe_delivery :
    (searching 6 6 true true).slots.table.get 30 = .lookup { file3 with intent := { file3.intent with tag := 0x777 } }
      ∧ ((searching 6 6 true true).coll.classes.get 5).ownLane = false ∧ HoldsOpen (searching 6 6 true true) 0 3
      ∧ (searching 6 6 true true).loader.state = .active
      ∧ (let p := ((searching 6 6 true true).frames.table.get 3).params
         let fill := ((searching 6 6 true true).frames.table.get 3).fill + (10000 + p.align - 1) / p.align * p.align
         ((searching 6 6 true true).frames.table.get 3).count + 1 < p.files
          ∧ fill ≤ 2 ^ (searching 6 6 true true).frames.exp - (512 + p.files * 64) ∧ fill < p.target * 1048576) := by
  decide +kernel

/-! ### Witnesses: arithmetic, and what every step keeps -/

theorem witness_merge :
    orderedFrom 10 0 [{ start := 0, stop := 2 }, { start := 9, stop := 10 }] = true ∧ (2 : Nat) < 10 ∧ 10 ≤ 10 := by decide

theorem witness_fold : AccOk { s := 65520, p := 0 } := by decide

theorem witness_serials_distinct : SerialsOk fates := by
  have h : ∀ n, HoldsPack fates n → n = 3 ∧ (fates.frames.table.get n).serial = 10
      ∨ n = 4 ∧ (fates.frames.table.get n).serial = 11 ∨ n = 6 ∧ (fates.frames.table.get n).serial = 12 := by
    intro n h
    simp only [HoldsPack, fates_frame] at h ⊢
    repeat' split at h
    all_goals simp_all [Frame.free, eq_comm]
  refine ⟨fun n hn => ?_, fun n m d hn hm => ?_⟩
  · have : fates.cmd.nextSerial = 13 := rfl
    rcases h n hn with ⟨-, e⟩ | ⟨-, e⟩ | ⟨-, e⟩ <;> omega
  · rcases h n hn with ⟨a, e⟩ | ⟨a, e⟩ | ⟨a, e⟩ <;> rcases h m hm with ⟨b, g⟩ | ⟨b, g⟩ | ⟨b, g⟩ <;>
      first | exact absurd (a.trans b.symm) d | omega

theorem witness_queues_in_form : QueuesOk fates := by
  refine ⟨by decide +kernel, by decide +kernel, ?_, ?_, ?_, ?_⟩
  · intro k h; exact absurd h (by rw [show fates.frames.waitQ = [] from rfl]; simp)
  · intro k h
    rw [show fates.coll.lookupQ = [30] from rfl, List.mem_singleton] at h
    subst h; decide +kernel
  · exact fun h => absurd rfl h
  · exact fun h => absurd rfl h

theorem witness_sums : ExtentsOk fates ∧ SumsOk fates ∧ PatternOk fates ∧ PendingOk fates ∧ LineOk fates ∧ QueueOk fates := by
  have h : ∀ k f, (fates.slots.table.get k).file? = some f → f = file3 := by
    intro k f h
    rw [fates_slot] at h
    repeat' split at h
    all_goals simp_all [SlotEntry.file?]
  refine ⟨fun k f e => ?_, ⟨fun k f e => ?_, fun n => ?_⟩, by decide +kernel, by decide +kernel, by decide +kernel, by decide +kernel⟩
  · rw [h k f e]; decide
  · rw [h k f e]; decide
  · rw [fates_frame]
    repeat' split
    all_goals decide
theorem witness_kept_step : ∃ t, step { fates with pending := [.profileReadTimeout] } = .next t := ⟨_, rfl⟩

theorem witness_next_serial : fates.cmd.nextSerial ≤ 2 ^ 48 ∧ (∀ p, Instr.tick ≠ .powerOnReset p) :=
  ⟨by decide +kernel, fun _ => nofun⟩

/-! ### One step against the spec's worked examples -/

/-- Section 4.3: three bytes give 0x018E00C6. -/
theorem test_digest_three_bytes : digestOf [0x41, 0x42, 0x43] = 26083526 := by decide +kernel

/-- Section 4.3: 512 bytes of 0xFF give 0x1CF1FE0F. -/
theorem test_digest_reduced : digestOf (List.replicate 512 0xFF) = 485621263 := by decide +kernel

/-- Section 4.4: the two-file pack's body digest, and with the second file at 131,072. -/
theorem test_fold :
    (((Acc.zero.fold { s := 198, p := 398 } 0).fold { s := 3, p := 5 } 512).digest,
     ((Acc.zero.fold { s := 198, p := 398 } 0).fold { s := 3, p := 5 } 131072).digest) = (127074505, 32309449) := by
  decide +kernel

/-- Section 3.8, the third write: clamped to 440 bytes, merged with the range it touches, 72 bytes of overrun. -/
theorem test_clamped_write :
    (let f := { covering (.tracked [{ start := 1024, stop := 1536 }, { start := 2048, stop := 2560 }]) false with
                intent := { file3.intent with length := 3000 } }
     let g := f.recordWrite 2560 (zeros (clamp 3000 2560 512)) (512 - clamp 3000 2560 512)
     (g.account.coverage, g.account.overrunCount, g.account.digestVoid))
      = (.tracked [{ start := 1024, stop := 1536 }, { start := 2048, stop := 3000 }], 72, false) := by
  decide +kernel

/-- Section 3.10: the ninth range scatters the file. -/
theorem test_scatter :
    ((covering (.tracked ((List.range 8).map (fun i => { start := i * 8192, stop := i * 8192 + 512 }))) false).recordWrite
      4096 (zeros 512) 0).account.coverage = .scattered := by
  decide +kernel

/-- Section 8.1: the second and fifth seals of the rotation. -/
theorem test_rotation :
    (let u : CopyUnit := { period := 3, counter := 1, masks := #v[7, 5, 2, 0] }
     (u.assign 2, u.assign 3, u.advance.counter, u.advance.advance.counter)) = (5, 7, 2, 0) := by
  decide +kernel

/-- Section 6.7: the first file of a new pack takes 12,288 bytes, and the next serial rises. -/
theorem test_open_new_pack :
    gives (.openFile 3 (rec 20) (slotRecord 1 10000 0)) { base with cmd := { base.cmd with nextSerial := 4410 } } (fun t =>
      (t.frames.table.get 0).fill == 12288 && (t.frames.table.get 0).serial == 4410 && t.cmd.nextSerial == 4411
        && (t.slots.table.get 20).code == 3) = true := by
  decide +kernel

/-- Section 6.7, a FULL rollover: a file that does not fit closes the OPEN frame, and goes to the lowest FREE frame. -/
theorem test_open_rollover :
    gives (.openFile 3 (rec 20) (slotRecord 1 16777216 0)) (withFrame filling 3 { openFrame0 with fill := 60000000 }) (fun t =>
      (t.frames.table.get 3).reason == some .full && (t.frames.table.get 0).fill == 16777216
        && (t.lanes.table.get 0).openFrame == some 0) = true := by
  decide +kernel

/-- Section 2.10: a data write at offset 4,096 of slot 40 goes to its place in frame 3; section 3.2: cut at 10,000. -/
theorem test_data_write :
    gives (.dataWrite 3 (slotAt 40 9728) (zeros 512)) filling (fun t =>
      t.queue.unsent.map (fun x => (x.addr, x.data.length)) == [(2 ^ 36 + 3 * 2 ^ 26 + 4608 + 9728, 272)]) = true := by
  decide +kernel

/-- Section 2.10: a CLOSE of an IDLE slot is refused NOT_OPEN with its request number and the rest zero (R179). -/
theorem test_close_idle :
    gives (.closeFile 3 (rec 40) ([2, 19] ++ zeros 6)) base (fun t =>
      t.queue.unsent.map (fun x => (x.addr, x.data)) ==
        [(0x2000000 + 0x1A00, [2, 19] ++ zeros 6), (0x2000000 + 0x1A20, [0, 7, 19, 0] ++ zeros 28)]) = true := by
  decide +kernel

/-- Section 2.10: another requester's write to the slot is a stray, reported with tally 1. -/
theorem test_stray :
    gives (.dataWrite 6 (slotAt 40 0) (zeros 512)) filling (fun t =>
      t.notes.pending.map (fun n => n.body) == [.stray 6 1 (slotAt 40 0)] && t.notes.tallies.get 6 == 0
        && t.queue.upCount == 0) = true := by
  decide +kernel

/-- Section 9.11, request 40: SET CLASS with T = 300, F = 1,000, A = 1, K = 6 in frames of 2^28 bytes. -/
theorem test_set_class :
    gives (.setClass 0 (cmdAt 2) (cell 3 [(8, le 1 3), (9, le 1 1), (10, le 2 300), (12, le 2 1000), (14, le 2 1),
        (18, le 2 120), (20, le 1 6)])) { base with frames := { base.frames with exp := 28 } } (fun t =>
      t.coll.classes.get 3 == { ownLane := true, params := { files := 1024, align := 4096, target := 255, quiet := 0,
                                                             age := 120, copies := 4 } }) = true := by
  decide +kernel

/-- Section 9.11, request 41: SET SERIAL below the next serial is refused BAD_ARGUMENT (R180). -/
theorem test_set_serial :
    gives (.setSerial 0 (cmdAt 2) (cell 6 [(8, le 6 4000)])) { base with cmd := { base.cmd with nextSerial := 4411 } } (fun t =>
      t.cmd.nextSerial == 4411
        && (t.queue.unsent.map (fun x => x.data)).getLast? == some ([3, 9, 6, 0] ++ zeros 12)) = true := by
  decide +kernel

/-- Section 8.7, confirm 6: the last pool's confirm releases the frame, and its status word reads CONFIRMED, FREE. -/
theorem test_confirm_releases :
    gives (.confirm 7 (confirmAt 4) (confirmOf 8 6130 3 1 127074505)) (finished .sealed 2 1) (fun t =>
      t.frames.table.get 8 == Frame.free
        && (t.queue.unsent.map (fun x => x.data))[1]? == some ([1, 1] ++ zeros 14)) = true := by
  decide +kernel

/-- Section 8.8: the third wrong digest holds the frame. -/
theorem test_third_mismatch :
    gives (.confirm 7 (confirmAt 4) (confirmOf 8 6130 3 1 1)) (finished .sealed 2 2) (fun t =>
      (t.frames.table.get 8).state == .held && (t.frames.table.get 8).mismatches == 3
        && (t.frames.table.get 8).confirmed == 2) = true := by
  decide +kernel

/-- Section 10.8: 100 is accepted and clears FAULTED; then 50 is held. -/
theorem test_consumer_index :
    gives (.consumerIndex 0 (ctl 0xC00) (le 8 100)) ring (fun t => t.notes.consumer == 100 && !t.notes.faulted) = true
      ∧ gives (.consumerIndex 0 (ctl 0xC00) (le 8 50)) { ring with notes := { ring.notes with consumer := 100 } } (fun t =>
          t.notes.consumer == 100 && t.notes.faulted) = true := by
  decide +kernel

/-- Section 7.6: at the 600th second the quiet pack closes. -/
theorem test_quiet :
    gives .tick (fillingAt 599) (fun t => (t.frames.table.get 3).reason == some .quiet
      && (t.frames.table.get 3).state == .closing && (t.lanes.table.get 0).openFrame == none) = true := by
  decide +kernel

/-- The 16 bytes of an entry of the external table (R185). -/
def tableEntry (tag cls : Nat) : List Byte := record 16 [(0, le 4 tag), (4, le 1 cls)]

/-- Section 5.3's example: a tag below the one sought moves the search to 5..9, and probe 2 reads 0x40_0000_0070. -/
theorem test_probe :
    gives (.probeAnswer (.data (tableEntry 0x515 0))) (searching 0 9 true true) (fun t =>
      t.storeOut == [.read 0x4000000070 16] && t.coll.search.any (fun q => q.lo == 5 && q.hi == 9)) = true := by
  decide +kernel

/-- Section 5.3's example: the fourth probe finds class 5 and delivers it. -/
theorem test_probe_found :
    gives (.probeAnswer (.data (tableEntry 0x777 5))) (searching 6 6 true true) (fun t =>
      t.coll.entries == [{ tag := 0x777, cls := 5, pinned := false, listed := true, lane := none }]
        && (t.slots.table.get 30).code == 3 && t.coll.search == none) = true := by
  decide +kernel

/-- R120: a seal header answered DONE with FAULT clear, and with it set. -/
theorem test_seal_done :
    gives .sealHeaderDone (withSent sealing (ownEntry (.sealHeader 3 4410))) (fun t =>
      (t.frames.table.get 3).state == .sealed && t.notes.pending.map (fun n => n.kind) == [.packSealed]) = true
      ∧ gives .sealHeaderDone (withFrame (withSent sealing (ownEntry (.sealHeader 3 4410))) 3
          { sealing.frames.table.get 3 with fault := true }) (fun t =>
          (t.frames.table.get 3).state == .held && t.notes.pending.map (fun n => n.kind) == [.packHeld] && t.attention) = true := by
  decide +kernel

/-- R162: DONE at position 1,023 wraps the producer and turns the lap bit. -/
theorem test_ring_wraps :
    gives .noticeWriteDone writing (fun t => t.notes.producer == 0 && t.notes.lap && t.notes.pending == []) = true := by
  decide +kernel

/-- R171, R186: the profile of zeros at place 0 passes the check word and fails the geometry check; the one at place 3
enters ACTIVE. -/
theorem test_profiles :
    gives (.profileReadDone configMemory) State.reset (fun t => t.loader.state == .passive && t.attention) = true
      ∧ gives (.profileReadDone configMemory) strap3 (fun t => t.loader.state == .active && t.frames.nF == 16) = true := by
  decide +kernel

/-- R185: the tag least byte first, and the class from byte 4. -/
theorem test_table_entry :
    (entryTag ([0x77, 7, 0, 0, 5, 9] ++ zeros 10), entryClass ([0x77, 7, 0, 0, 5, 9] ++ zeros 10)) = (0x777, 5) := by
  decide +kernel

/-- R37: a read beyond the declared length is answered zeros with no store read. -/
theorem test_slot_read_zeros :
    gives (.slotRead 9 (slotAt 40 10000) 4) filling (fun t =>
      t.linkOut == [{ r := 9, answer := .data (zeros 4) }] && t.storeOut == []) = true := by
  decide +kernel

/-- Section 1.2: pass window address translation. -/
theorem test_pass_write :
    gives (.upstreamWrite 5 0x700000000345 [1, 2]) base (fun t =>
      t.queue.unsent.map (fun x => x.addr) == [0x8000000345] && t.linkOut == [{ r := 5, answer := .accept }]) = true := by
  decide +kernel

/-- R182: the ring entry of a PACK_SEALED notice, byte by byte. -/
theorem test_notice_bytes :
    (Notice.bytes { time := 0x0102, body := .packSealed 3 6 true (some .quiet) 3 0x5A17 86528 5 127074505 4410 } true 2)
      = [0x84, 2, 0, 2, 1, 0, 0, 0, 0, 0x03, 0x98, 4, 3, 0, 0x17, 0x5A, 0, 0, 0x48, 0x05, 0, 0x28, 0xC9, 0x00, 0x93, 0x07,
         0x3A, 0x11, 0, 0, 0, 0] := by
  decide +kernel

end Sys2Proof.Tests
end

section
/-! SUPPORT. The end of an event in the terms of Safety: the fields it keeps, what an upstream write taken or dropped leaves
in the store queue, where the own writes and the notices of the event go, and how a write at a slot record or in the slot
window comes to its block. -/

namespace Sys2Proof.Machine

open Sys2Proof.Safety

/-! ### The fields that an event's end keeps -/

/-- Reservations with no frame FREE: none is made (R99). -/
theorem Ev.reserveAll_no_free {e : Ev} (h : e.lowestFree = none) : e.reserveAll = e := by
  have lane : ∀ l : LaneNo, e.reserveLane l = e := by
    intro l
    unfold Ev.reserveLane
    rw [h]
    split <;> rfl
  have all : ∀ ls : List LaneNo, ls.foldl Ev.reserveLane e = e := by
    intro ls
    induction ls with
    | nil => rfl
    | cons l ls ih => rw [List.foldl_cons, lane, ih]
  unfold Ev.reserveAll
  split
  · exact all _
  · rfl

/-- The event makes no reservation: R99 considers none, or no frame is FREE. -/
def Ev.reservesNone (e : Ev) : Prop := e.noReservation ∨ e.lowestFree = none

theorem Ev.reserveAll_of_reservesNone {e : Ev} (h : e.reservesNone) : e.reserveAll = e :=
  h.elim Ev.reserveAll_none Ev.reserveAll_no_free

theorem Ev.finish_frames_of_reservesNone {e : Ev} (h : e.reservesNone) : e.finish.frames = e.frames := by
  show e.reserveAll.waitNotice.frames = e.frames
  rw [Ev.reserveAll_of_reservesNone h, Ev.waitNotice_toState]

theorem Ev.finish_lanes_of_reservesNone {e : Ev} (h : e.reservesNone) : e.finish.lanes = e.lanes := by
  show e.reserveAll.waitNotice.lanes = e.lanes
  rw [Ev.reserveAll_of_reservesNone h, Ev.waitNotice_toState]

/-- With no reservation made, the writes in the queue are as they were, and held own writes may stand behind them (R13). -/
theorem Ev.finish_unsent_of_reservesNone {e : Ev} (h : e.reservesNone) :
    ∃ later : List OwnWrite, e.finish.queue.unsent = e.queue.unsent ++ later.map (fun w => w.entry none) := by
  have hunsent : e.reserveAll.waitNotice.queue.unsent = e.queue.unsent := by
    rw [Ev.reserveAll_of_reservesNone h, Ev.waitNotice_toState]
  rw [← hunsent]
  exact ⟨_, rfl⟩

/-- What has been made of the state by event `e` is what stands in `t`, but for the store queue, the notices, the
outputs and the attention line. -/
structure Ev.LeftIn (e : Ev) (t : State) : Prop where
  loader : t.loader = e.loader
  decoder : t.decoder = e.decoder
  port : t.port = e.port
  pending : t.pending = e.pending
  slots : t.slots = e.slots
  coll : t.coll = e.coll
  lanes : t.lanes = e.lanes
  frames : t.frames = e.frames
  copy : t.copy = e.copy
  cmd : t.cmd = e.cmd

theorem Ev.finish_leftIn {e : Ev} (h : e.reservesNone) : e.LeftIn e.finish :=
  ⟨e.finish_loader, e.finish_decoder, e.finish_port, e.finish_pending, e.finish_slots, e.finish_coll,
    Ev.finish_lanes_of_reservesNone h, Ev.finish_frames_of_reservesNone h, e.finish_copy, e.finish_cmd⟩

/-! ### The own writes of an event -/

theorem mem_delaySeals (q : Nat → Nat) (w : OwnWrite) (ws : List OwnWrite) :
    ∀ (i : Nat) (late : List OwnWrite), w ∈ delaySeals q i late ws ↔ w ∈ late ∨ w ∈ ws := by
  induction ws with
  | nil => intro i late; simp [delaySeals]
  | cons x xs ih =>
    intro i late
    unfold delaySeals
    split
    · simp [ih, or_assoc]
    · split
      · next hlate => simp [ih, List.isEmpty_iff.mp hlate]
      · split
        · simp [ih]
        · simp [ih, or_left_comm]

theorem mem_putAmong {α : Type} (y x : α) (l : List α) : ∀ i : Nat, y ∈ putAmong i x l ↔ y = x ∨ y ∈ l := by
  induction l with
  | nil => intro i; simp [putAmong]
  | cons z zs ih =>
    intro i
    unfold putAmong
    split
    · simp
    · simp [ih, or_left_comm]

theorem mem_foldl_putAmong {α : Type} (i : Nat) (y : α) (ws : List α) :
    ∀ l : List α, y ∈ ws.foldl (fun l w => putAmong i w l) l ↔ y ∈ l ∨ y ∈ ws := by
  induction ws with
  | nil => intro l; simp
  | cons w ws ih => intro l; simp only [List.foldl_cons, ih, mem_putAmong, List.mem_cons]; tauto

/-- Whatever order R13 gives the own writes of an event, each of them is held. -/
theorem mem_arrange {q : Nat → Nat} {inOrder : Bool} {made : List OwnWrite} {ring : Option OwnWrite} {w : OwnWrite}
    (h : w ∈ made) : w ∈ arrange q inOrder made ring := by
  have described : w ∈ made.filter OwnWrite.isDescription ∨ w ∈ made.filter (fun w => !w.isDescription) := by
    cases hd : w.isDescription
    · exact .inr (List.mem_filter.mpr ⟨h, by simp [hd]⟩)
    · exact .inl (List.mem_filter.mpr ⟨h, hd⟩)
  have placed : w ∈ (made.filter OwnWrite.isDescription).foldl (fun l w => putAmong (q 2) w l)
      (if inOrder then made.filter (fun w => !w.isDescription)
        else delaySeals (fun i => q (i + 8)) 0 [] (made.filter (fun w => !w.isDescription))) := by
    rw [mem_foldl_putAmong]
    rcases described with hd | hd
    · exact .inr hd
    · left
      split
      · exact hd
      · exact (mem_delaySeals _ _ _ _ _).mpr (.inr hd)
  unfold arrange
  cases ring with
  | none => exact placed
  | some x => exact (mem_putAmong _ _ _ _).mpr (.inr placed)

/-- A held write enters the queue or stays held (R13). -/
theorem StoreQueue.mem_takeHeld {q : StoreQueue} {w : OwnWrite} (h : w ∈ q.held) :
    w.entry none ∈ q.takeHeld.unsent ∨ w ∈ q.takeHeld.held := by
  rw [← List.take_append_drop (16 - q.ownCount) q.held, List.mem_append] at h
  rcases h with h | h
  · left
    rw [q.takeHeld_unsent]
    exact List.mem_append_right _ (List.mem_map_of_mem h)
  · exact .inr h

/-- Every own write an event has made is in the queue at its end, or held (R13). -/
theorem Ev.finish_made {e : Ev} {w : OwnWrite} (h : w ∈ e.made) : Made e.finish w := by
  have hw : w ∈ e.reserveAll.waitNotice.made := by rw [Ev.waitNotice_made, e.reserveAll_frame.made]; exact h
  exact StoreQueue.mem_takeHeld (List.mem_append_right _ (mem_arrange hw))

/-! ### The notices of an event -/

/-- The event has found the frame-wait queue as empty as it leaves it, so that R102 posts nothing. -/
def Ev.sameWait (e : Ev) : Prop := e.waitWasEmpty = e.frames.waitQ.isEmpty

theorem Ev.waitNotice_same {e : Ev} (h : e.sameWait) : e.waitNotice = e := by
  unfold Ev.sameWait at h
  unfold Ev.waitNotice
  split <;> simp_all

/-- The notices of an event that R99 and R102 add nothing to. -/
theorem Ev.finish_notes {e : Ev} (hr : e.reservesNone) (hw : e.sameWait) :
    e.finish.notes = (((orderNotices (Config.orderChoice e.choice) e.posted).foldl NoticeUnit.enqueue e.notes).ringWrite
      e.decoder.control.store).1 := by
  show e.reserveAll.waitNotice.settle.notes = _
  rw [Ev.reserveAll_of_reservesNone hr, Ev.waitNotice_same hw]
  rfl

/-- The ring write of the head leaves all but the writing state and the lost count (R162). -/
theorem NoticeUnit.ringWrite_keeps (u : NoticeUnit) (base : Nat) :
    ∃ writing lost, (u.ringWrite base).1 = { u with writing := writing, lost := lost } := by
  unfold NoticeUnit.ringWrite
  split
  · exact ⟨_, _, rfl⟩
  · split
    · exact ⟨_, _, rfl⟩
    · dsimp only
      split <;> exact ⟨_, _, rfl⟩

/-- R99 makes no reservation in the event, R102 posts nothing, and nothing else has been posted. -/
structure Ev.Quiet (e : Ev) : Prop where
  reserveDue : e.reserveDue = false
  sameWait : e.sameWait
  posted : e.posted = []

theorem Ev.start_quiet (s : State) : (Ev.start s).Quiet := ⟨rfl, rfl, rfl⟩

theorem Ev.Quiet.reservesNone {e : Ev} (h : e.Quiet) : e.reservesNone :=
  .inl (Ev.noReservation_of_same h.reserveDue h.sameWait)

theorem Ev.Quiet.finish_notes {e : Ev} (h : e.Quiet) :
    e.finish.notes = (e.notes.ringWrite e.decoder.control.store).1 := by
  rw [Ev.finish_notes h.reservesNone h.sameWait, h.posted]
  rfl

theorem Ev.Quiet.keepsNotices {s : State} {e : Ev} (h : e.Quiet) (hn : e.notes = s.notes) : KeepsNotices s e.finish := by
  obtain ⟨writing, lost, hw⟩ := NoticeUnit.ringWrite_keeps s.notes e.decoder.control.store
  simp [KeepsNotices, h.finish_notes, hn, hw]

/-! ### An upstream write taken or dropped -/

/-- An element of a table that one element was put into, by the element read. -/
theorem get_put_read {α : Type} {n : Nat} (v : Vector α n) (i j : Fin n) (x : α) :
    (put v i x).get j = if j = i then x else v.get j := by
  rw [get_put]
  simp only [eq_comm]

@[simp] theorem Ev.acceptWrite_notes (e : Ev) (r : Requester) (x : Entry) (own : List OwnWrite) :
    (e.acceptWrite r x own).notes = e.notes := rfl

theorem Ev.accept_leftIn {e : Ev} (h : e.reservesNone) (r : Requester) (x : Entry) (own : List OwnWrite) :
    e.LeftIn (e.acceptWrite r x own).finish := by
  obtain ⟨hloader, hdecoder, hport, hpending, hslots, hcoll, hlanes, hframes, hcopy, hcmd⟩ :=
    Ev.finish_leftIn (e := e.acceptWrite r x own) h
  exact ⟨hloader, hdecoder, hport, hpending, hslots, hcoll, hlanes, hframes, hcopy, hcmd⟩

theorem Ev.drop_leftIn {e : Ev} (h : e.reservesNone) (r : Requester) : e.LeftIn (e.answer r .accept).finish := by
  obtain ⟨hloader, hdecoder, hport, hpending, hslots, hcoll, hlanes, hframes, hcopy, hcmd⟩ :=
    Ev.finish_leftIn (e := e.answer r .accept) h
  exact ⟨hloader, hdecoder, hport, hpending, hslots, hcoll, hlanes, hframes, hcopy, hcmd⟩

theorem Ev.Quiet.accept {e : Ev} (h : e.Quiet) (r : Requester) (x : Entry) (own : List OwnWrite) :
    (e.acceptWrite r x own).Quiet := ⟨h.reserveDue, h.sameWait, h.posted⟩

theorem Ev.Quiet.drop {e : Ev} (h : e.Quiet) (r : Requester) : (e.answer r .accept).Quiet :=
  ⟨h.reserveDue, h.sameWait, h.posted⟩

/-- The queue of an event that takes a write and has kept what was unsent (R12, R13). -/
theorem Ev.accept_queued {s : State} {e : Ev} (h : e.reservesNone) (hunsent : e.queue.unsent = s.queue.unsent)
    (hsent : e.queue.sent = s.queue.sent) (hreads : e.queue.reads = s.queue.reads) (hout : e.linkOut = [])
    (r : Requester) (x : Entry) (own : List OwnWrite) : Queued s (e.acceptWrite r x own).finish r x own := by
  obtain ⟨later, hlater⟩ := Ev.finish_unsent_of_reservesNone (e := e.acceptWrite r x own) h
  refine ⟨⟨later, ?_⟩, ?_, ?_, ?_⟩
  · rw [hlater, ← hunsent]; rfl
  · rw [Ev.finish_sent, ← hsent]; rfl
  · rw [Ev.finish_reads, ← hreads]; rfl
  · rw [Ev.finish_linkOut]
    show e.linkOut ++ _ = _
    rw [hout]; rfl

theorem Ev.accept_took {s : State} {e : Ev} (h : e.reservesNone) (hq : e.queue = s.queue) (hout : e.linkOut = [])
    (hstore : e.storeOut = []) (r : Requester) (x : Entry) (own : List OwnWrite) :
    Took s (e.acceptWrite r x own).finish r x own := by
  refine ⟨Ev.accept_queued h (by rw [hq]) (by rw [hq]) (by rw [hq]) hout r x own, ?_, ?_⟩
  · rw [Ev.finish_probes, ← hq]; rfl
  · rw [Ev.finish_storeOut, ← hstore]; rfl

theorem Ev.drop_dropped {s : State} {e : Ev} (h : e.reservesNone) (hq : e.queue = s.queue) (hout : e.linkOut = [])
    (hstore : e.storeOut = []) (r : Requester) : Dropped s (e.answer r .accept).finish r := by
  obtain ⟨later, hlater⟩ := Ev.finish_unsent_of_reservesNone (e := e.answer r .accept) h
  refine ⟨⟨later, ?_⟩, ?_, ?_, ?_, ?_, ?_⟩
  · rw [hlater, ← hq]; rfl
  · rw [Ev.finish_sent, ← hq]; rfl
  · rw [Ev.finish_reads, ← hq]; rfl
  · rw [Ev.finish_probes, ← hq]; rfl
  · rw [Ev.finish_linkOut]
    show e.linkOut ++ _ = _
    rw [hout]; rfl
  · rw [Ev.finish_storeOut, ← hstore]; rfl

/-! ### From a request to its block -/

theorem isAwaiting_of_hears {s : State} {r : Requester} (h : Hears s r) : s.isAwaiting r = false := by
  simp [State.isAwaiting, h.2]

theorem malformed_of_wellSized {addr : UpAddr} {n : Nat} (h : WellSized addr n) : malformed addr n = false := by
  obtain ⟨hpos, hmax, hpage⟩ := h
  simp only [malformed, Bool.or_eq_false_iff, decide_eq_false_iff_not]
  omega

theorem hasRoom_of_roomFor {s : State} {own : Nat} (h : RoomFor s own) : s.queue.hasRoom own = true := by
  obtain ⟨hup, hown⟩ := h
  rcases hown with hown | ⟨hheld, hcount⟩
  · simp [StoreQueue.hasRoom, hup, hown]
  · simp [StoreQueue.hasRoom, hup, hheld, hcount]

/-- A write that is to be taken is taken when there is room for it and its own writes (R12). -/
theorem settleWrite_take {s : State} {own : List OwnWrite} (h : RoomFor s own.length) (r : Requester) (addr : UpAddr)
    (e : Ev) (origin : UpOrigin) (storeAddr : Nat) (d : List Byte) :
    s.settleWrite r addr (.take e origin storeAddr d own)
      = (e.acceptWrite r (upstreamEntry r origin addr storeAddr d) own).finish := by
  simp [State.settleWrite, hasRoom_of_roomFor h]

/-- A write that the part hears is judged by its place (R3). -/
theorem takeWrite_of_hears {s : State} {r : Requester} (h : Hears s r) (addr : UpAddr) (d : List Byte) :
    s.takeWrite r addr d = s.settleWrite r addr ((Ev.start s.clearOut).activeWrite r addr d) := by
  obtain ⟨⟨hstate, hreset⟩, _⟩ := id h
  simp [State.takeWrite, isAwaiting_of_hears h, Ev.judgeWrite, hstate, hreset]

/-- A write in the slot window goes to the slot engine (R5, R35). -/
theorem takeWrite_slot {s : State} {r : Requester} {addr : UpAddr} {d : List Byte} {k : SlotNo} {o : Nat}
    (h : SlotDue s r addr d.length k o) :
    s.takeWrite r addr d = s.settleWrite r addr ((Ev.start s.clearOut).slotWrite k o r addr d) := by
  obtain ⟨hears, hsize, hplace⟩ := h
  simp [takeWrite_of_hears hears, Ev.activeWrite, malformed_of_wellSized hsize, hplace]

/-- A whole slot record, or its first 8 bytes, is a slot-record write (R6, R22). -/
theorem controlForm_slotRecord (k : SlotNo) {len : Nat} (h : len = 64 ∨ len = 8) :
    controlForm (0x1000 + k.val * 64) len = .slotRecord k (len == 64) := by
  have hk := k.isLt
  have hslot : (0x1000 + k.val * 64 - 0x1000) / 64 % 512 = k.val := by omega
  have command : rangesMeet (0x1000 + k.val * 64) len 0x0400 0x400 = false := by
    simp only [rangesMeet, Bool.and_eq_false_iff, decide_eq_false_iff_not]; omega
  have confirm : rangesMeet (0x1000 + k.val * 64) len 0x0800 0x400 = false := by
    simp only [rangesMeet, Bool.and_eq_false_iff, decide_eq_false_iff_not]; omega
  have consumer : rangesMeet (0x1000 + k.val * 64) len 0x0C00 8 = false := by
    simp only [rangesMeet, Bool.and_eq_false_iff, decide_eq_false_iff_not]; omega
  have record : rangesMeet (0x1000 + k.val * 64) len 0x1000 0x8000 = true := by
    simp only [rangesMeet, Bool.and_eq_true, decide_eq_true_eq]; omega
  have aligned : (0x1000 + k.val * 64) % 64 = 0 ∧ (len = 64 ∨ len = 8) ∧ 0x1000 ≤ 0x1000 + k.val * 64 := by omega
  simp only [controlForm, command, confirm, consumer, record, if_pos aligned, if_true]
  simp only [Bool.false_eq_true, if_false, hslot]

/-- A slot-record write with room for the own writes it makes is taken, with what its record asks for (R6, R12). -/
theorem takeWrite_record {s : State} {r : Requester} {addr : UpAddr} {d : List Byte} {k : SlotNo} {code own : Nat}
    (h : RecordDue s r addr d k code own) {e : Ev} {ws : List OwnWrite}
    (hact : (Ev.start s.clearOut).actRecord k r addr (d.length == 64) d = (e, ws)) (hown : ws.length = own) :
    s.takeWrite r addr d = (e.acceptWrite r
      (upstreamEntry r .control addr (s.decoder.control.store + (0x1000 + k.val * 64)) d) ws).finish := by
  obtain ⟨⟨hears, hsize, hplace⟩, hlen, hroom, _⟩ := h
  have hjudge : (Ev.start s.clearOut).activeWrite r addr d
      = .take e .control (s.decoder.control.store + (0x1000 + k.val * 64)) d ws := by
    simp [Ev.activeWrite, malformed_of_wellSized hsize, hplace, Ev.controlWrite,
      controlForm_slotRecord k (hlen.imp_right And.left), hact, State.controlAddr]
  rw [takeWrite_of_hears hears, hjudge, settleWrite_take (hown ▸ hroom)]

/-! ### The records by their code -/

/-- A record with code OPEN stands whole (R22, R23). -/
theorem actRecord_open {s : State} {r : Requester} {addr : UpAddr} {d : List Byte} {k : SlotNo} {own : Nat}
    (h : RecordDue s r addr d k 1 own) (e : Ev) : e.actRecord k r addr (d.length == 64) d = e.actOpen k r d := by
  obtain ⟨_, hlen, _, hcode⟩ := h
  have hlen : d.length = 64 := by omega
  simp [Ev.actRecord, recordCode, hcode, hlen]

theorem actRecord_close {s : State} {r : Requester} {addr : UpAddr} {d : List Byte} {k : SlotNo} {own : Nat}
    (h : RecordDue s r addr d k 2 own) (e : Ev) (whole : Bool) :
    e.actRecord k r addr whole d = e.actEnd k r d .closed := by
  simp [Ev.actRecord, recordCode, h.2.2.2]

theorem actRecord_abandon {s : State} {r : Requester} {addr : UpAddr} {d : List Byte} {k : SlotNo} {own : Nat}
    (h : RecordDue s r addr d k 3 own) (e : Ev) (whole : Bool) :
    e.actRecord k r addr whole d = e.actEnd k r d .abandoned := by
  simp [Ev.actRecord, recordCode, h.2.2.2]

/-- The store address of an offset of a placed file, spelled out (R36, R88, R90). -/
theorem Ev.fileAddr_eq (e : Ev) (p : Placement) (o : Nat) :
    e.fileAddr p o = e.decoder.pack.store + p.frame.val * 2 ^ e.frames.exp
      + (512 + (e.frames.table.get p.frame).params.files * 64) + p.offset + o := rfl

/-- A slot's entry at the beginning of an event is the state's. -/
theorem Ev.start_slot (s : State) (k : SlotNo) : (Ev.start s.clearOut).slot k = s.slots.table.get k := rfl

end Sys2Proof.Machine
end

section
/-! SUPPORT. The pending queue of notices (R159, R160), and the obligation on it. -/

namespace Sys2Proof.Machine

/-! ### Urgency and loss -/

/-- The three URGENT kinds (R158). -/
theorem Notice.urgent_iff (n : Notice) :
    n.urgent = true ↔ n.kind = .storeFault ∨ n.kind = .packHeld ∨ n.kind = .framesExhausted := by
  unfold Notice.urgent
  cases n.kind <;> simp [NoticeKind.urgent]

theorem NoticeUnit.lose_eq (u : NoticeUnit) (n : Notice) :
    u.lose n = { u with
      lost := min (u.lost + 1) 65535
      strayOut := match n.body with
        | .stray r _ _ => put u.strayOut r false
        | _ => u.strayOut } := by
  unfold NoticeUnit.lose
  cases n.body <;> rfl

/-! ### A notice placed where there is room (R159) -/

theorem NoticeUnit.insertNotice_routine (u : NoticeUnit) {n : Notice} (h : n.urgent = false) :
    u.insertNotice n = { u with pending := u.pending ++ [n] } := by
  simp [NoticeUnit.insertNotice, h]

/-- The notice in writing and the URGENT ones behind it: what an URGENT notice is placed behind. -/
def NoticeUnit.aheadOfUrgent (u : NoticeUnit) : List Notice :=
  u.pending.take u.headLen ++ (u.pending.drop u.headLen).takeWhile Notice.urgent

/-- What an URGENT notice is placed ahead of. -/
def NoticeUnit.behindUrgent (u : NoticeUnit) : List Notice := (u.pending.drop u.headLen).dropWhile Notice.urgent

theorem NoticeUnit.ahead_append_behind (u : NoticeUnit) : u.aheadOfUrgent ++ u.behindUrgent = u.pending := by
  unfold NoticeUnit.aheadOfUrgent NoticeUnit.behindUrgent
  rw [List.append_assoc, List.takeWhile_append_dropWhile, List.take_append_drop]

theorem NoticeUnit.insertNotice_urgent (u : NoticeUnit) {n : Notice} (h : n.urgent = true) :
    u.insertNotice n = { u with pending := u.aheadOfUrgent ++ n :: u.behindUrgent } := by
  simp [NoticeUnit.insertNotice, h, NoticeUnit.aheadOfUrgent, NoticeUnit.behindUrgent]

theorem NoticeUnit.urgent_of_mem_ahead (u : NoticeUnit) {m : Notice} (h : m ∈ u.aheadOfUrgent.drop u.headLen) :
    m.urgent = true := by
  unfold NoticeUnit.aheadOfUrgent at h
  rw [List.drop_append, List.drop_eq_nil_of_le (by simp), List.nil_append] at h
  exact List.mem_takeWhile_imp (List.mem_of_mem_drop h)

theorem NoticeUnit.routine_of_head_behind (u : NoticeUnit) {m : Notice} (h : m ∈ u.behindUrgent.head?) :
    m.urgent = false := by
  have hhead := List.head?_dropWhile_not Notice.urgent (u.pending.drop u.headLen)
  rw [show ((u.pending.drop u.headLen).dropWhile Notice.urgent).head? = some m from h] at hhead
  simpa using hhead

theorem NoticeUnit.headLen_le_ahead (u : NoticeUnit) (h : u.pending ≠ []) : u.headLen ≤ u.aheadOfUrgent.length := by
  have hpos := List.length_pos_iff.mpr h
  have hone : u.headLen ≤ 1 := by unfold NoticeUnit.headLen; split <;> omega
  simp only [NoticeUnit.aheadOfUrgent, List.length_append, List.length_take]
  omega

/-! ### A notice posted (R160) -/

theorem NoticeUnit.enqueue_room {u : NoticeUnit} (h : u.pending.length < 32) (n : Notice) :
    u.enqueue n = u.insertNotice n := by
  simp [NoticeUnit.enqueue, h]

theorem NoticeUnit.enqueue_full_routine {u : NoticeUnit} (h : 32 ≤ u.pending.length) {n : Notice}
    (hn : n.urgent = false) : u.enqueue n = u.lose n := by
  simp only [NoticeUnit.enqueue, if_neg (Nat.not_lt.mpr h), hn, Bool.false_eq_true, if_false]
  split <;> rfl

theorem NoticeUnit.enqueue_full_urgent {u : NoticeUnit} (h : 32 ≤ u.pending.length) (n : Notice)
    (hall : ∀ m ∈ u.pending.drop u.headLen, m.urgent = true) : u.enqueue n = u.lose n := by
  have hfind : (u.pending.drop u.headLen).find? (fun m : Notice => !m.urgent) = none := by
    simpa using hall
  simp [NoticeUnit.enqueue, Nat.not_lt.mpr h, hfind]

/-- An URGENT notice posted to a full queue takes the place of the oldest ROUTINE one not in writing (R160). -/
theorem NoticeUnit.enqueue_displaces {u : NoticeUnit} (h : 32 ≤ u.pending.length) {n m : Notice}
    (hn : n.urgent = true) {front back : List Notice} (hq : u.pending = front ++ m :: back)
    (hlen : u.headLen ≤ front.length) (hfront : ∀ x ∈ front.drop u.headLen, x.urgent = true) (hm : m.urgent = false) :
    u.enqueue n = ({ u with pending := front ++ back }.lose m).insertNotice n := by
  have htake : u.pending.take u.headLen = front.take u.headLen := by rw [hq, List.take_append_of_le_length hlen]
  have hdrop : u.pending.drop u.headLen = front.drop u.headLen ++ m :: back := by
    rw [hq, List.drop_append_of_le_length hlen]
  have hroutine : ∀ x ∈ front.drop u.headLen, ¬(!x.urgent) = true := fun x hx => by simp [hfront x hx]
  have hfind : (front.drop u.headLen ++ m :: back).find? (fun x : Notice => !x.urgent) = some m := by
    rw [List.find?_append, List.find?_eq_none.mpr hroutine]
    simp [hm]
  have herase : (front.drop u.headLen ++ m :: back).eraseP (fun x : Notice => !x.urgent)
      = front.drop u.headLen ++ back := by
    rw [List.eraseP_append_right _ hroutine]
    simp [hm]
  simp only [NoticeUnit.enqueue, if_neg (Nat.not_lt.mpr h), htake, hdrop, hfind, hn, if_true, herase,
    ← List.append_assoc, List.take_append_drop]

end Sys2Proof.Machine

namespace Sys2Proof.Safety

open Sys2Proof.Machine

/-- Where a notice stands among those that waited (R159), by the model's own test of urgency. -/
theorem insertNotice_queued (u : NoticeUnit) (n : Notice) :
    (¬n.urgent = true → (u.insertNotice n).pending = u.pending ++ [n])
      ∧ (n.urgent = true → ∃ front back, u.pending = front ++ back ∧ (u.insertNotice n).pending = front ++ n :: back
        ∧ (∀ m ∈ front.drop u.headLen, m.urgent = true) ∧ (∀ m ∈ back.head?, ¬m.urgent = true)
        ∧ (u.pending ≠ [] → u.headLen ≤ front.length)) := by
  constructor
  · intro h
    rw [u.insertNotice_routine (by simpa using h)]
  · intro h
    refine ⟨u.aheadOfUrgent, u.behindUrgent, u.ahead_append_behind.symm, ?_, fun _ => u.urgent_of_mem_ahead, ?_,
      u.headLen_le_ahead⟩
    · rw [u.insertNotice_urgent h]
    · intro m hm
      simp [u.routine_of_head_behind hm]

/-- Placing a notice changes the pending queue alone. -/
theorem insertNotice_only_pending (u : NoticeUnit) (n : Notice) :
    u.insertNotice n = { u with pending := (u.insertNotice n).pending } := by
  unfold NoticeUnit.insertNotice
  split <;> rfl

/-- Settles O43: by whether there is room, by the urgency of the notice posted, and by what it may displace. -/
theorem noticesWaitInThePendingQueue : Obligations.NoticesWaitInThePendingQueue := by
  unfold Obligations.NoticesWaitInThePendingQueue
  intro u n
  simp only [← Notice.urgent_iff]
  refine ⟨fun hroom => ?_, fun hfull hn => ?_, fun hfull hn hall => ?_, fun front m back hfull hn hq hlen hfront hm => ?_⟩
  · rw [NoticeUnit.enqueue_room hroom]
    exact ⟨insertNotice_only_pending u n, insertNotice_queued u n⟩
  · exact (NoticeUnit.enqueue_full_routine hfull (by simpa using hn)).trans (u.lose_eq n)
  · exact (NoticeUnit.enqueue_full_urgent hfull n hall).trans (u.lose_eq n)
  · rw [NoticeUnit.enqueue_displaces hfull hn hq hlen hfront (by simpa using hm), NoticeUnit.lose_eq]
    exact ⟨insertNotice_only_pending _ n, insertNotice_queued _ n⟩

end Sys2Proof.Safety
end

section
/-! SUPPORT. A read that has a store address, and reads of a slot (R14, R37). -/

namespace Sys2Proof.Safety

open Sys2Proof.Machine

/-! ### A read with a store address -/

/-- The event of a read with a store address before it may go: its requester awaits it, held (R14). -/
def readHeld (s : State) (q : ReadReq) : Ev := (Ev.start s.clearOut).setAwaiting q.requester (some (.held q))

/-- The event of a read with a store address that goes at once (R14). -/
def readSent (s : State) (q : ReadReq) : Ev :=
  (((readHeld s q).setAwaiting q.requester (some .sent)).setQueue
    { s.queue with reads := s.queue.reads ++ [{ read := q, live := true }] }).send (.read q.addr q.len)

theorem sendRead_readHeld (s : State) (q : ReadReq) :
    (readHeld s q).sendRead q.requester = if s.queue.owesTo q.requester then readHeld s q else readSent s q := by
  have hheld : (readHeld s q).port.awaiting.get q.requester = some (.held q) := get_put_same _ _ _
  unfold Ev.sendRead
  rw [hheld]
  rfl

/-- Every requester but the reader awaits what it awaited. -/
theorem readHeld_awaiting_other (s : State) (q : ReadReq) {p : Requester} (h : p ≠ q.requester) :
    (readHeld s q).port.awaiting.get p = s.port.awaiting.get p := get_put_other _ _ _ _ h.symm

theorem readSent_awaiting_other (s : State) (q : ReadReq) {p : Requester} (h : p ≠ q.requester) :
    (readSent s q).port.awaiting.get p = s.port.awaiting.get p :=
  (get_put_other _ _ _ _ h.symm).trans (readHeld_awaiting_other s q h)

theorem readHeld_quiet (s : State) (q : ReadReq) : (readHeld s q).Quiet := ⟨rfl, rfl, rfl⟩

theorem readSent_quiet (s : State) (q : ReadReq) : (readSent s q).Quiet := ⟨rfl, rfl, rfl⟩

/-- What the taking of a read leaves as it is, sent or held (R14). -/
theorem read_keeps (s : State) (q : ReadReq) {e : Ev} (h : e = readHeld s q ∨ e = readSent s q) :
    (∀ p, p ≠ q.requester → e.finish.port.awaiting.get p = s.port.awaiting.get p)
      ∧ e.finish.port.linkReset = s.port.linkReset ∧ e.finish.linkOut = [] ∧ e.finish.queue.sent = s.queue.sent
      ∧ e.finish.queue.probes = s.queue.probes ∧ e.finish.loader = s.loader ∧ e.finish.decoder = s.decoder
      ∧ KeepsPacking s e.finish ∧ KeepsNotices s e.finish ∧ e.finish.cmd = s.cmd := by
  have hquiet : e.Quiet := by
    rcases h with rfl | rfl
    · exact readHeld_quiet s q
    · exact readSent_quiet s q
  have hother : ∀ p, p ≠ q.requester → e.port.awaiting.get p = s.port.awaiting.get p := by
    intro p hp
    rcases h with rfl | rfl
    · exact readHeld_awaiting_other s q hp
    · exact readSent_awaiting_other s q hp
  have hnotes : e.notes = s.notes := by rcases h with rfl | rfl <;> rfl
  obtain ⟨hloader, hdecoder, hport, _, hslots, hcoll, hlanes, hframes, hcopy, hcmd⟩ :=
    Ev.finish_leftIn hquiet.reservesNone
  refine ⟨fun p hp => by rw [hport]; exact hother p hp, ?_, ?_, ?_, ?_, ?_, ?_, ?_, hquiet.keepsNotices hnotes, ?_⟩
  · rw [hport]; rcases h with rfl | rfl <;> rfl
  · rw [e.finish_linkOut]; rcases h with rfl | rfl <;> rfl
  · rw [e.finish_sent]; rcases h with rfl | rfl <;> rfl
  · rw [e.finish_probes]; rcases h with rfl | rfl <;> rfl
  · rw [hloader]; rcases h with rfl | rfl <;> rfl
  · rw [hdecoder]; rcases h with rfl | rfl <;> rfl
  · rw [KeepsPacking, hslots, hcoll, hlanes, hframes, hcopy]
    rcases h with rfl | rfl <;> exact ⟨rfl, rfl, rfl, rfl, rfl⟩
  · rw [hcmd]; rcases h with rfl | rfl <;> rfl

/-- A read with a store address is sent or held by what is owed to its requester, and nothing else changes (R14). -/
theorem event_readTaken (s : State) (q : ReadReq) :
    ReadTaken s (s.clearOut.event (fun e => (e.setAwaiting q.requester (some (.held q))).sendRead q.requester)) q := by
  show ReadTaken s ((readHeld s q).sendRead q.requester).finish q
  rw [sendRead_readHeld]
  cases howed : s.queue.owesTo q.requester
  · rw [if_neg Bool.false_ne_true]
    refine ⟨fun _ => ⟨?_, Ev.finish_storeOut _, Ev.finish_reads _⟩, fun h => absurd (howed.symm.trans h) (by decide),
      read_keeps s q (.inr rfl)⟩
    rw [Ev.finish_port]
    exact get_put_same _ _ _
  · rw [if_pos rfl]
    refine ⟨fun h => absurd (howed.symm.trans h) (by decide), fun _ => ⟨?_, Ev.finish_storeOut _, Ev.finish_reads _⟩,
      read_keeps s q (.inl rfl)⟩
    rw [Ev.finish_port]
    exact get_put_same _ _ _

/-! ### A slot read -/

/-- A read the part hears in the slot window is judged by the slot engine (R5, R37). -/
theorem judgeRead_slot {s : State} {r : Requester} {addr : UpAddr} {n : Nat} {k : SlotNo} {o : Nat}
    (h : SlotDue s r addr n k o) : s.judgeRead r addr n = s.slotRead k o r n := by
  obtain ⟨⟨⟨hstate, hreset⟩, _⟩, hsize, hplace⟩ := h
  simp only [State.judgeRead, hstate, hreset, State.activeRead, malformed_of_wellSized hsize, hplace,
    Bool.false_eq_true, if_false]

/-- What a slot read that the part hears comes to, by the verdict on it. -/
theorem exec_slotRead {s : State} {r : Requester} {addr : UpAddr} {n : Nat} {k : SlotNo} {o : Nat}
    (h : SlotDue s r addr n k o) :
    (s.slotRead k o r n = .retry → exec (.slotRead r addr n) s = .next (s.retry r))
      ∧ (s.slotRead k o r n = .noTarget → exec (.slotRead r addr n) s = .next (s.answerNow r .noTarget))
      ∧ (∀ m, s.slotRead k o r n = .zeros m →
        exec (.slotRead r addr n) s = .next (s.answerNow r (.data (List.replicate m 0))))
      ∧ (∀ q, s.slotRead k o r n = .store q → q.requester = r → ∃ t, exec (.slotRead r addr n) s = .next t
        ∧ ReadTaken s t q) := by
  have hexec : exec (.slotRead r addr n) s = .next (s.takeRead r addr n) := rfl
  simp only [hexec, State.takeRead, isAwaiting_of_hears h.1, judgeRead_slot h, Bool.false_eq_true, if_false]
  refine ⟨fun hv => by rw [hv], fun hv => by rw [hv], fun m hv => by rw [hv], fun q hv hq => ?_⟩
  subst hq
  rw [hv]
  exact ⟨_, rfl, event_readTaken s q⟩

/-- Settles O15: by the slot's state and, in FILLING, by whether the read begins within the declared length. -/
theorem slotReads : Obligations.SlotReads := by
  unfold Obligations.SlotReads
  intro s r addr n k o due
  obtain ⟨retries, noTarget, zeros, store⟩ := exec_slotRead due
  refine ⟨fun hslot => noTarget ?_, fun f hslot => retries ?_, fun f c l hslot => retries ?_,
    fun f c l p hslot hend => zeros n ?_, fun f c l p hslot hin => store _ ?_ rfl⟩
  · simp [State.slotRead, hslot]
  · simp [State.slotRead, hslot]
  · simp [State.slotRead, hslot]
  · simp [State.slotRead, hslot, hend]
  · simp [State.slotRead, hslot, Nat.not_le.mpr hin, Ev.fileAddr_eq]

end Sys2Proof.Safety
end

section
/-! SUPPORT. The beginning of a seal, and the end of a placed file (R28, R62 to R66, R116). -/

namespace Sys2Proof.Machine

open Sys2Proof.Safety

/-! ### A seal begins -/

/-- The parts of an event that the beginning of a seal of frame `n` leaves as they are. -/
structure Ev.SealFrame (n : FrameNo) (e e' : Ev) : Prop where
  loader : e'.loader = e.loader
  decoder : e'.decoder = e.decoder
  port : e'.port = e.port
  pending : e'.pending = e.pending
  queue : e'.queue = e.queue
  slots : e'.slots = e.slots
  coll : e'.coll = e.coll
  lanes : e'.lanes = e.lanes
  cmd : e'.cmd = e.cmd
  notes : e'.notes = e.notes
  linkOut : e'.linkOut = e.linkOut
  storeOut : e'.storeOut = e.storeOut
  posted : e'.posted = e.posted
  reserveDue : e'.reserveDue = e.reserveDue
  waitWasEmpty : e'.waitWasEmpty = e.waitWasEmpty
  frames : e'.frames = { e.frames with table := put e.frames.table n (e'.frame n) }

theorem put_get_self {α : Type} {n : Nat} (v : Vector α n) (i : Fin n) : put v i (v.get i) = v := by
  show v.set i.val v[i.val] i.isLt = v
  simp

theorem Ev.SealFrame.refl (n : FrameNo) (e : Ev) : e.SealFrame n e := by
  refine ⟨rfl, rfl, rfl, rfl, rfl, rfl, rfl, rfl, rfl, rfl, rfl, rfl, rfl, rfl, rfl, ?_⟩
  show e.frames = { e.frames with table := put e.frames.table n (e.frames.table.get n) }
  rw [put_get_self]

theorem Ev.beginSeal_frame (e : Ev) (n : FrameNo) : (e.beginSeal n).frame n = sealingRecord e.copy (e.frame n) :=
  get_put_same _ _ _

theorem Ev.beginSeal_copy (e : Ev) (n : FrameNo) : (e.beginSeal n).copy = e.copy.advance := rfl

theorem Ev.beginSeal_made (e : Ev) (n : FrameNo) :
    (e.beginSeal n).made = e.made ++ [e.sealHeaderWrite n (sealingRecord e.copy (e.frame n))] := rfl

theorem Ev.beginSeal_keeps (e : Ev) (n : FrameNo) : e.SealFrame n (e.beginSeal n) := by
  refine ⟨rfl, rfl, rfl, rfl, rfl, rfl, rfl, rfl, rfl, rfl, rfl, rfl, rfl, rfl, rfl, ?_⟩
  rw [Ev.beginSeal_frame]
  rfl

/-- Whether a frame is CLOSING with its last file ended, so that its seal begins (R116). -/
def Ev.sealDue (e : Ev) (n : FrameNo) : Prop := (e.frame n).state = .closing ∧ (e.frame n).inFlight = 0

theorem Ev.sealIfEmpty_due {e : Ev} {n : FrameNo} (h : e.sealDue n) : e.sealIfEmpty n = e.beginSeal n := if_pos h

theorem Ev.sealIfEmpty_not_due {e : Ev} {n : FrameNo} (h : ¬e.sealDue n) : e.sealIfEmpty n = e := if_neg h

theorem Ev.sealIfEmpty_keeps (e : Ev) (n : FrameNo) : e.SealFrame n (e.sealIfEmpty n) := by
  by_cases h : e.sealDue n
  · rw [Ev.sealIfEmpty_due h]; exact e.beginSeal_keeps n
  · rw [Ev.sealIfEmpty_not_due h]; exact Ev.SealFrame.refl n e

theorem Ev.SealFrame.sameWait {n : FrameNo} {e e' : Ev} (h : e.SealFrame n e') (hw : e.sameWait) : e'.sameWait := by
  rw [Ev.sameWait, h.waitWasEmpty, h.frames]
  exact hw

theorem Ev.SealFrame.quiet {n : FrameNo} {e e' : Ev} (h : e.SealFrame n e') (hq : e.Quiet) : e'.Quiet :=
  ⟨h.reserveDue.trans hq.reserveDue, h.sameWait hq.sameWait, h.posted.trans hq.posted⟩

theorem Ev.SealFrame.otherFrame {n m : FrameNo} {e e' : Ev} (h : e.SealFrame n e') (hm : m ≠ n) :
    e'.frame m = e.frame m := by
  rw [Ev.frame, h.frames]
  exact get_put_other _ _ _ _ hm.symm

/-- The header of a seal is made of the record and of values that the rest of the event keeps (R119). -/
theorem sealHeaderWrite_congr {s t : State} (hdecoder : t.decoder = s.decoder) (hexp : t.frames.exp = s.frames.exp)
    (hpreamble : t.frames.preamble = s.frames.preamble) (hcmd : t.cmd = s.cmd) (n : FrameNo) (f : Frame) :
    t.sealHeaderWrite n f = s.sealHeaderWrite n f := by
  simp only [State.sealHeaderWrite, State.headerBytes, State.frameBase, State.frameSize, hdecoder, hexp, hpreamble, hcmd]

/-- At the end of an event that has begun the seal of frame `n`: its record, the copy pattern, and its header made. -/
theorem Ev.beginSeal_finished {e e' : Ev} {n : FrameNo} (h : e'.reservesNone)
    (hframes : e'.frames = (e.beginSeal n).frames) (hcopy : e'.copy = e.copy.advance)
    (hmade : e'.made = (e.beginSeal n).made) (hdecoder : e'.decoder = e.decoder) (hcmd : e'.cmd = e.cmd) :
    e'.finish.frames.table.get n = sealingRecord e.copy (e.frame n) ∧ e'.finish.copy = e.copy.advance
      ∧ Made e'.finish (e'.finish.sealHeaderWrite n (e'.finish.frames.table.get n)) := by
  have hrecord : e'.finish.frames.table.get n = sealingRecord e.copy (e.frame n) := by
    rw [Ev.finish_frames_of_reservesNone h, hframes]; exact e.beginSeal_frame n
  refine ⟨hrecord, by rw [e'.finish_copy, hcopy], ?_⟩
  have hheader : e'.finish.sealHeaderWrite n (e'.finish.frames.table.get n)
      = e.sealHeaderWrite n (sealingRecord e.copy (e.frame n)) := by
    rw [hrecord]
    refine sealHeaderWrite_congr ?_ ?_ ?_ ?_ n _
    · rw [e'.finish_decoder, hdecoder]
    · rw [Ev.finish_frames_of_reservesNone h, hframes]; rfl
    · rw [Ev.finish_frames_of_reservesNone h, hframes]; rfl
    · rw [e'.finish_cmd, hcmd]
  rw [hheader]
  exact Ev.finish_made (by rw [hmade, Ev.beginSeal_made]; simp)

/-! ### A file ends -/

/-- A frame's record after the end of a file, spelled out (R28, R64, R66, R108). -/
theorem Frame.ended_eq (fr : Frame) (f : File) (p : Placement) (r : EndReport) (entry : List Byte) :
    fr.ended f p r entry = { fr with
      body := if r.digestState = .void ∨ r.digestState = .absent then fr.body
        else { s := (fr.body.s + f.acc.s) % 65521,
               p := (fr.body.p + f.acc.p + p.offset % 65521 * f.acc.s % 65521) % 65521 }
      index := fr.index.addBytes (p.entry * 64) entry
      inFlight := fr.inFlight - 1 } := by
  unfold Frame.ended
  cases r.digestState <;> rfl

/-- The bytes of the index entry of a file that ends in state `s` (R28). -/
abbrev endEntry (s : State) (k : SlotNo) (f : File) (p : Placement) (reason : EndReason) : List Byte :=
  indexEntryBytes f k p reason (f.endReport reason) s.cmd.bridgeTime

/-- The record of a file's frame when the file has ended in state `s` and before a seal (R28). -/
abbrev endRecord (s : State) (k : SlotNo) (f : File) (p : Placement) (reason : EndReason) : Frame :=
  (s.frames.table.get p.frame).ended f p (f.endReport reason) (endEntry s k f p reason)

/-- The own writes of the end of a file in state `s`: its index entry and the final status word (R28). -/
abbrev endWrites (s : State) (k : SlotNo) (f : File) (p : Placement) (reason : EndReason) : List OwnWrite :=
  [{ kind := .indexEntry p.frame p.entry (s.frames.table.get p.frame).serial,
     addr := s.decoder.pack.store + p.frame.val * 2 ^ s.frames.exp + 512 + p.entry * 64, data := endEntry s k f p reason },
   s.statusWrite k 0 .ended f.lastReq (f.endReport reason).state.code
     (some { frame := p.frame, entry := p.entry, serial := (s.frames.table.get p.frame).serial })
     (f.finalDigest (f.endReport reason))]

/-- What an upstream write that ends the file of slot `k` leaves: the slot IDLE, the file given to its frame, which seals
if it is CLOSING and this was its last file, and the two writes behind the write taken (R12, R28, R116). -/
structure FileEnds (s t : State) (r : Requester) (x : Entry) (k : SlotNo) (f : File) (p : Placement)
    (reason : EndReason) : Prop where
  slots : ∀ j : SlotNo, t.slots.table.get j = if j = k then .idle else s.slots.table.get j
  path : KeepsPath s t
  cmd : t.cmd = s.cmd
  otherFrames : OtherFrames s t p.frame
  stays : ¬((s.frames.table.get p.frame).state = .closing ∧ (s.frames.table.get p.frame).inFlight - 1 = 0) →
    t.frames.table.get p.frame = endRecord s k f p reason ∧ t.copy = s.copy
  seals : (s.frames.table.get p.frame).state = .closing → (s.frames.table.get p.frame).inFlight - 1 = 0 →
    t.frames.table.get p.frame = sealingRecord s.copy (endRecord s k f p reason) ∧ t.copy = s.copy.advance
      ∧ Made t (t.sealHeaderWrite p.frame (t.frames.table.get p.frame))
  took : Took s t r x (endWrites s k f p reason)
  notices : KeepsNotices s t
  coll : t.coll = s.coll
  lanes : t.lanes = s.lanes

/-- An upstream write taken in whose event the file of slot `k` ends. -/
theorem endFile_accepted (s : State) (r : Requester) (x : Entry) (k : SlotNo) (f : File) (p : Placement)
    (reason : EndReason) :
    FileEnds s ((((Ev.start s.clearOut).endFile k f p reason).1.sealIfEmpty p.frame).acceptWrite r x
      ((Ev.start s.clearOut).endFile k f p reason).2).finish r x k f p reason := by
  have hwrites : ((Ev.start s.clearOut).endFile k f p reason).2 = endWrites s k f p reason := rfl
  have hevent : ((Ev.start s.clearOut).endFile k f p reason).1
      = ((Ev.start s.clearOut).setFrame p.frame (endRecord s k f p reason)).setSlot k .idle := rfl
  rw [hwrites, hevent]
  generalize hev : ((Ev.start s.clearOut).setFrame p.frame (endRecord s k f p reason)).setSlot k .idle = e
  have hquiet : e.Quiet := by subst hev; exact ⟨rfl, rfl, rfl⟩
  have hframe : e.frame p.frame = endRecord s k f p reason := by subst hev; exact get_put_same _ _ _
  have hdue : e.sealDue p.frame
      ↔ (s.frames.table.get p.frame).state = .closing ∧ (s.frames.table.get p.frame).inFlight - 1 = 0 := by
    rw [Ev.sealDue, hframe]; rfl
  have hkeeps := e.sealIfEmpty_keeps p.frame
  have hq := hkeeps.quiet hquiet
  have haccept := hq.accept r x (endWrites s k f p reason)
  have hleft := Ev.accept_leftIn hq.reservesNone r x (endWrites s k f p reason)
  exact {
    slots := by
      intro j
      rw [hleft.slots, hkeeps.slots]
      subst hev
      exact get_put_read _ _ _ _
    path := by
      rw [KeepsPath, hleft.loader, hleft.decoder, hleft.port, hleft.pending, hkeeps.loader, hkeeps.decoder, hkeeps.port,
        hkeeps.pending]
      subst hev
      exact ⟨rfl, rfl, rfl, rfl⟩
    cmd := by rw [hleft.cmd, hkeeps.cmd]; subst hev; rfl
    otherFrames := by
      intro m hm
      rw [hleft.frames]
      refine (hkeeps.otherFrame hm).trans ?_
      subst hev
      exact get_put_other _ _ _ _ hm.symm
    stays := by
      intro hnot
      rw [hleft.frames, hleft.copy, Ev.sealIfEmpty_not_due (mt hdue.mp hnot)]
      exact ⟨hframe, by subst hev; rfl⟩
    seals := by
      intro hclosing hlast
      have hcopy : e.copy = s.copy := by subst hev; rfl
      have hseal := Ev.sealIfEmpty_due (hdue.mpr ⟨hclosing, hlast⟩)
      have hframes : (e.sealIfEmpty p.frame).frames = (e.beginSeal p.frame).frames := by rw [hseal]
      have hcopies : (e.sealIfEmpty p.frame).copy = e.copy.advance := by rw [hseal, Ev.beginSeal_copy]
      have hmade : (e.sealIfEmpty p.frame).made = (e.beginSeal p.frame).made := by rw [hseal]
      have hend := Ev.beginSeal_finished haccept.reservesNone hframes hcopies hmade hkeeps.decoder hkeeps.cmd
      rw [hframe, hcopy] at hend
      exact hend
    took := by
      refine Ev.accept_took hq.reservesNone ?_ ?_ ?_ r x _
      · rw [hkeeps.queue]; subst hev; rfl
      · rw [hkeeps.linkOut]; subst hev; rfl
      · rw [hkeeps.storeOut]; subst hev; rfl
    notices := haccept.keepsNotices (by rw [Ev.acceptWrite_notes, hkeeps.notes]; subst hev; rfl)
    coll := by rw [hleft.coll, hkeeps.coll]; subst hev; rfl
    lanes := by rw [hleft.lanes, hkeeps.lanes]; subst hev; rfl }

/-- The in-flight count, the index sums and the state of the frame of a file that has ended (R28, R108, R116). -/
theorem FileEnds.frame_fields {s t : State} {r : Requester} {x : Entry} {k : SlotNo} {f : File} {p : Placement}
    {reason : EndReason} (h : FileEnds s t r x k f p reason) :
    (t.frames.table.get p.frame).inFlight = (s.frames.table.get p.frame).inFlight - 1
      ∧ (t.frames.table.get p.frame).index
        = (s.frames.table.get p.frame).index.addBytes (p.entry * 64) (endEntry s k f p reason)
      ∧ (t.frames.table.get p.frame).state
        = (if (s.frames.table.get p.frame).state = .closing ∧ (s.frames.table.get p.frame).inFlight - 1 = 0 then .sealing
          else (s.frames.table.get p.frame).state) := by
  by_cases hlast : (s.frames.table.get p.frame).state = .closing ∧ (s.frames.table.get p.frame).inFlight - 1 = 0
  · obtain ⟨hrecord, _⟩ := h.seals hlast.1 hlast.2
    simp [hrecord, hlast, Frame.ended]
  · obtain ⟨hrecord, _⟩ := h.stays hlast
    simp only [hrecord, if_neg hlast, Frame.ended, and_self]

end Sys2Proof.Machine
end

section
/-! SUPPORT. The branches of OPEN, CLOSE and ABANDON by the slot's state and the writer, and the obligation on the records
that are refused (R25, R26). -/

namespace Sys2Proof.Safety

open Sys2Proof.Machine

/-! ### Refused records -/

/-- A slot-record write that makes a status word and nothing else is taken, and changes nothing (R25). -/
theorem record_refused {s : State} {r : Requester} {addr : UpAddr} {d : List Byte} {k : SlotNo} {code : Nat}
    {w : OwnWrite} (due : RecordDue s r addr d k code 1)
    (hact : (Ev.start s.clearOut).actRecord k r addr (d.length == 64) d = (Ev.start s.clearOut, [w])) :
    Took s (s.takeWrite r addr d) r (upstreamEntry r .control addr (s.decoder.control.store + (0x1000 + k.val * 64)) d)
        [w]
      ∧ KeepsPath s (s.takeWrite r addr d) ∧ KeepsPacking s (s.takeWrite r addr d)
      ∧ KeepsNotices s (s.takeWrite r addr d) ∧ (s.takeWrite r addr d).cmd = s.cmd := by
  have hquiet := Ev.start_quiet s.clearOut
  rw [takeWrite_record due hact rfl]
  have hleft := Ev.accept_leftIn hquiet.reservesNone r
    (upstreamEntry r .control addr (s.decoder.control.store + (0x1000 + k.val * 64)) d) [w]
  exact ⟨Ev.accept_took hquiet.reservesNone rfl rfl rfl r _ _,
    ⟨hleft.loader, hleft.decoder, hleft.port, hleft.pending⟩,
    ⟨hleft.slots, hleft.coll, hleft.lanes, hleft.frames, hleft.copy⟩, (hquiet.accept r _ _).keepsNotices rfl, hleft.cmd⟩

/-- The status word of a slot at the beginning of an event, by the slot's state (R25, R33). -/
theorem statusOf_idle {s : State} {k : SlotNo} (h : s.slots.table.get k = .idle) (result : SlotResult) (req : Byte) :
    (Ev.start s.clearOut).statusOf k result req = s.statusWrite k 0 result req 0 none 0 := by
  simp only [Ev.statusOf, Ev.start_slot, h]
  rfl

theorem statusOf_lookup {s : State} {k : SlotNo} {f : File} (h : s.slots.table.get k = .lookup f)
    (result : SlotResult) (req : Byte) :
    (Ev.start s.clearOut).statusOf k result req = s.statusWrite k 1 result req 0 none 0 := by
  simp only [Ev.statusOf, Ev.start_slot, h]
  rfl

theorem statusOf_waiting {s : State} {k : SlotNo} {f : File} {c : ClassNo} {l : LaneNo}
    (h : s.slots.table.get k = .waiting f c l) (result : SlotResult) (req : Byte) :
    (Ev.start s.clearOut).statusOf k result req = s.statusWrite k 2 result req 0 none 0 := by
  simp only [Ev.statusOf, Ev.start_slot, h]
  rfl

theorem statusOf_filling {s : State} {k : SlotNo} {f : File} {c : ClassNo} {l : LaneNo} {p : Placement}
    (h : s.slots.table.get k = .filling f c l p) (result : SlotResult) (req : Byte) :
    (Ev.start s.clearOut).statusOf k result req = s.statusWrite k 3 result req 0
      (some { frame := p.frame, entry := p.entry, serial := (s.frames.table.get p.frame).serial }) 0 := by
  simp only [Ev.statusOf, Ev.start_slot, h]
  rfl

theorem actOpen_not_idle {e : Ev} {k : SlotNo} {f : File} (h : (e.slot k).file? = some f) (r : Requester) (d : List Byte) :
    e.actOpen k r d = (e, [e.statusOf k (if f.owner = r then .busy else .foreign) (recordReq d)]) := by
  simp only [Ev.actOpen, h]

theorem actOpen_idle {e : Ev} {k : SlotNo} (h : e.slot k = .idle) (r : Requester) (d : List Byte) :
    e.actOpen k r d = e.openIdle k r d := by
  simp only [Ev.actOpen, h, SlotEntry.file?]

theorem actEnd_idle {e : Ev} {k : SlotNo} (h : e.slot k = .idle) (r : Requester) (d : List Byte) (reason : EndReason) :
    e.actEnd k r d reason = (e, [e.statusOf k .notOpen (recordReq d)]) := by
  simp only [Ev.actEnd, h, SlotEntry.file?]

theorem actEnd_foreign {e : Ev} {k : SlotNo} {f : File} (h : (e.slot k).file? = some f) {r : Requester}
    (hr : f.owner ≠ r) (d : List Byte) (reason : EndReason) :
    e.actEnd k r d reason = (e, [e.statusOf k .foreign (recordReq d)]) := by
  simp only [Ev.actEnd, h, if_neg hr]

theorem actEnd_owner {e : Ev} {k : SlotNo} {f : File} (h : (e.slot k).file? = some f) {r : Requester}
    (hr : f.owner = r) (d : List Byte) (reason : EndReason) :
    e.actEnd k r d reason = e.takeEnd k (recordReq d) reason := by
  simp only [Ev.actEnd, h, if_pos hr]

/-- CLOSE and ABANDON both go to the end of a file, each with its reason (R26, R29, R30). -/
theorem exec_end {s : State} {r : Requester} {addr : UpAddr} {d : List Byte} {k : SlotNo} {code own : Nat}
    {reason : EndReason} {cmd : Instr}
    (hcode : code = 2 ∧ reason = .closed ∧ cmd = .closeFile r addr d
      ∨ code = 3 ∧ reason = .abandoned ∧ cmd = .abandonFile r addr d) (due : RecordDue s r addr d k code own) :
    exec cmd s = .next (s.takeWrite r addr d)
      ∧ ∀ e : Ev, e.actRecord k r addr (d.length == 64) d = e.actEnd k r d reason := by
  rcases hcode with ⟨rfl, rfl, rfl⟩ | ⟨rfl, rfl, rfl⟩
  · exact ⟨rfl, fun e => actRecord_close due e _⟩
  · exact ⟨rfl, fun e => actRecord_abandon due e _⟩

/-- Settles O23: a refused record makes its status word and nothing else, in each of its cases. -/
theorem refusedRecordsChangeNothing : Obligations.RefusedRecordsChangeNothing := by
  unfold Obligations.RefusedRecordsChangeNothing
  intro s r addr d k
  refine ⟨fun due => ?_, fun code cmd hcode due => ?_⟩
  · have opens : ∀ {f : File} {w : OwnWrite}, (s.slots.table.get k).file? = some f →
        (Ev.start s.clearOut).statusOf k (if f.owner = r then .busy else .foreign) (recordReq d) = w →
        (Ev.start s.clearOut).actRecord k r addr (d.length == 64) d = (Ev.start s.clearOut, [w]) := by
      intro f w hfile hw
      rw [actRecord_open due, actOpen_not_idle (e := Ev.start s.clearOut) hfile, hw]
    have lengths : s.slots.table.get k = .idle →
        (Ev.start s.clearOut).actRecord k r addr (d.length == 64) d = (Ev.start s.clearOut).openIdle k r d := by
      intro hslot
      rw [actRecord_open due, actOpen_idle (e := Ev.start s.clearOut) hslot]
    refine ⟨fun f h => ?_, fun f c l h => ?_, fun f c l p h => ?_, fun h hzero => ?_, fun h hlarge => ?_⟩
    · exact ⟨_, rfl, record_refused due (opens (by rw [h]; rfl) (statusOf_lookup h _ _))⟩
    · exact ⟨_, rfl, record_refused due (opens (by rw [h]; rfl) (statusOf_waiting h _ _))⟩
    · exact ⟨_, rfl, record_refused due (opens (by rw [h]; rfl) (statusOf_filling h _ _))⟩
    · refine ⟨_, rfl, record_refused due ((lengths h).trans ?_)⟩
      have hlen : (newFile r d).intent.length = 0 := hzero
      simp only [Ev.openIdle, if_pos hlen, statusOf_idle h]
      rfl
    · refine ⟨_, rfl, record_refused due ((lengths h).trans ?_)⟩
      have hlen : 16777216 < (newFile r d).intent.length := hlarge
      simp only [Ev.openIdle, if_neg (Nat.ne_of_gt (Nat.zero_lt_of_lt hlen)), if_pos hlen, statusOf_idle h]
      rfl
  · have ⟨reason, hreason⟩ : ∃ reason : EndReason, code = 2 ∧ reason = .closed ∧ cmd = .closeFile r addr d
        ∨ code = 3 ∧ reason = .abandoned ∧ cmd = .abandonFile r addr d := by
      rcases hcode with ⟨hc, hcmd⟩ | ⟨hc, hcmd⟩
      · exact ⟨_, .inl ⟨hc, rfl, hcmd⟩⟩
      · exact ⟨_, .inr ⟨hc, rfl, hcmd⟩⟩
    obtain ⟨hexec, hact⟩ := exec_end hreason due
    have foreign : ∀ {f : File} {w : OwnWrite}, f.owner ≠ r → (s.slots.table.get k).file? = some f →
        (Ev.start s.clearOut).statusOf k .foreign (recordReq d) = w →
        (Ev.start s.clearOut).actRecord k r addr (d.length == 64) d = (Ev.start s.clearOut, [w]) := by
      intro f w hr hfile hw
      rw [hact, actEnd_foreign (e := Ev.start s.clearOut) hfile hr, hw]
    refine ⟨fun h => ?_, fun f hr h => ?_, fun f c l hr h => ?_, fun f c l p hr h => ?_⟩
    · refine ⟨_, hexec, record_refused due ?_⟩
      rw [hact, actEnd_idle (e := Ev.start s.clearOut) h, statusOf_idle h]
      rfl
    · exact ⟨_, hexec, record_refused due (foreign hr (by rw [h]; rfl) (statusOf_lookup h _ _))⟩
    · exact ⟨_, hexec, record_refused due (foreign hr (by rw [h]; rfl) (statusOf_waiting h _ _))⟩
    · exact ⟨_, hexec, record_refused due (foreign hr (by rw [h]; rfl) (statusOf_filling h _ _))⟩

end Sys2Proof.Safety
end

section
/-! SUPPORT. CLOSE and ABANDON by the owner, of a placed file and of a queued intent (R27, R29, R30, R77). -/

namespace Sys2Proof.Machine

open Sys2Proof.Safety

/-! ### A queued intent ends -/

/-- The lookup engine's queue and search once slot `k` has left LOOKUP (R77). -/
abbrev leftLookup (c : Collections) (k : SlotNo) : Collections :=
  { c with
    lookupQ := c.lookupQ.filter (fun j => j != k)
    search := c.search.map (fun q => if q.slot = k then { q with claimed := false } else q) }

/-- A slot in LOOKUP that its owner ends: its place in the queue, its claim on a search and its entry (R27, R77). -/
theorem Ev.endQueued_lookup {e : Ev} {k : SlotNo} {f : File} (h : e.slot k = .lookup f) :
    e.endQueued k = ({ e with coll := leftLookup e.coll k } : Ev).setSlot k .idle := by
  unfold Ev.endQueued
  rw [h]
  unfold Ev.unclaim
  cases hsearch : e.coll.search with
  | none => simp [Ev.setLookupQ, hsearch, leftLookup]
  | some q =>
    by_cases hq : q.slot = k
    · simp [Ev.setLookupQ, Ev.setSearch, hsearch, leftLookup, hq]
    · simp [Ev.setLookupQ, hsearch, leftLookup, hq]

theorem Ev.endQueued_waiting {e : Ev} {k : SlotNo} {f : File} {c : ClassNo} {l : LaneNo}
    (h : e.slot k = .waiting f c l) : e.endQueued k = (e.leaveWait k).setSlot k .idle := by
  unfold Ev.endQueued
  rw [h]

theorem Ev.takeEnd_filling {e : Ev} {k : SlotNo} {f : File} {c : ClassNo} {l : LaneNo} {p : Placement}
    (h : e.slot k = .filling f c l p) (req : Byte) (reason : EndReason) :
    e.takeEnd k req reason = ((e.endFile k (f.took req) p reason).1.sealIfEmpty p.frame,
      (e.endFile k (f.took req) p reason).2) := by
  unfold Ev.takeEnd
  rw [h]

theorem Ev.takeEnd_queued {e : Ev} {k : SlotNo} {f : File} (h : queuedFile (e.slot k) = some f) (req : Byte)
    (reason : EndReason) : e.takeEnd k req reason = (e.endQueued k, [e.statusWrite k 0 .ended req 0 none 0]) := by
  unfold Ev.takeEnd
  cases hslot : e.slot k with
  | filling f c l p => rw [hslot] at h; cases h
  | idle => rfl
  | lookup f => rfl
  | waiting f c l => rfl

/-- The frame-wait queue empties with no frame FREE: FRAMES_AVAILABLE is all that the event's end adds (R102). -/
theorem Ev.finish_notes_emptied {e : Ev} (hactive : e.loader.state = .active) (hfree : e.lowestFree = none)
    (hwait : e.waitWasEmpty = false) (hempty : e.frames.waitQ = []) (hposted : e.posted = []) :
    e.finish.notes = ((e.notes.enqueue
      { time := e.cmd.bridgeTime, body := .framesAvailable (e.countFrames .free) }).ringWrite
        e.decoder.control.store).1 := by
  have hnotice : e.waitNotice = e.post .frame (.framesAvailable (e.countFrames .free)) := by
    unfold Ev.waitNotice
    rw [hempty, hwait]
    rfl
  show e.reserveAll.waitNotice.settle.notes = _
  rw [Ev.reserveAll_no_free hfree, hnotice, Ev.post, if_pos hactive, hposted]
  rfl

end Sys2Proof.Machine

namespace Sys2Proof.Safety

open Sys2Proof.Machine

/-- The own write that ends a queued intent (R27). -/
abbrev endedReport (s : State) (k : SlotNo) (d : List Byte) : OwnWrite :=
  s.statusWrite k 0 .ended (BitVec.ofNat 8 (field d 1 1)) 0 none 0

/-- A write taken in the event in which a slot went IDLE and left its queue (R12, R27). -/
theorem queuedEnd_accepted {s : State} {e : Ev} {k : SlotNo} (hres : e.reservesNone)
    (hslots : e.slots = { table := put s.slots.table k .idle }) (hpath : KeepsPath s e.toState) (hcmd : e.cmd = s.cmd)
    (hcopy : e.copy = s.copy) (hqueue : e.queue = s.queue) (hlink : e.linkOut = []) (hstore : e.storeOut = [])
    (r : Requester) (x : Entry) (own : List OwnWrite) :
    let t := (e.acceptWrite r x own).finish
    ((∀ j : SlotNo, t.slots.table.get j = if j = k then .idle else s.slots.table.get j) ∧ KeepsPath s t ∧ t.cmd = s.cmd)
      ∧ Took s t r x own ∧ t.copy = s.copy := by
  have hleft := Ev.accept_leftIn hres r x own
  refine ⟨⟨fun j => ?_, ?_, hleft.cmd.trans hcmd⟩, Ev.accept_took hres hqueue hlink hstore r x own,
    hleft.copy.trans hcopy⟩
  · rw [hleft.slots, hslots]
    exact get_put_read _ _ _ _
  · obtain ⟨hloader, hdecoder, hport, hpending⟩ := hpath
    exact ⟨hleft.loader.trans hloader, hleft.decoder.trans hdecoder, hleft.port.trans hport,
      hleft.pending.trans hpending⟩

theorem file_of_queuedFile {x : SlotEntry} {f : File} (h : queuedFile x = some f) : x.file? = some f := by
  cases x with
  | idle => cases h
  | lookup g => exact h
  | waiting g c l => exact h
  | filling g c l p => cases h

/-- A CLOSE or ABANDON by the owner of a queued intent ends it, and makes its status word (R27). -/
theorem actEnd_queued {s : State} {k : SlotNo} {f : File} {r : Requester} (h : queuedFile (s.slots.table.get k) = some f)
    (howner : f.owner = r) (d : List Byte) (reason : EndReason) :
    (Ev.start s.clearOut).actEnd k r d reason = ((Ev.start s.clearOut).endQueued k, [endedReport s k d]) := by
  rw [actEnd_owner (e := Ev.start s.clearOut) (file_of_queuedFile h) howner,
    Ev.takeEnd_queued (e := Ev.start s.clearOut) h]
  rfl

/-- Settles O24: by the slot's state; a placed file's end is `endFile_accepted`, a queued intent's the two queues. -/
theorem closeAndAbandonEndTheFile : Obligations.CloseAndAbandonEndTheFile := by
  unfold Obligations.CloseAndAbandonEndTheFile
  intro s r addr d k f code reason cmd hcode howner
  refine ⟨fun c l p due hslot => ?_, fun due => ?_⟩
  · obtain ⟨hexec, hact⟩ := exec_end hcode due
    have htake : (Ev.start s.clearOut).actRecord k r addr (d.length == 64) d
        = (((Ev.start s.clearOut).endFile k (f.took (recordReq d)) p reason).1.sealIfEmpty p.frame,
          ((Ev.start s.clearOut).endFile k (f.took (recordReq d)) p reason).2) := by
      rw [hact, actEnd_owner (e := Ev.start s.clearOut) (by rw [Ev.start_slot, hslot]; rfl) howner,
        Ev.takeEnd_filling (e := Ev.start s.clearOut) hslot]
    rw [hexec, takeWrite_record due htake rfl]
    have hends := endFile_accepted s r
      (upstreamEntry r .control addr (s.decoder.control.store + (0x1000 + k.val * 64)) d) k (f.took (recordReq d)) p reason
    have hrecord := Frame.ended_eq (s.frames.table.get p.frame) (f.took (recordReq d)) p
      ((f.took (recordReq d)).endReport reason) (endEntry s k (f.took (recordReq d)) p reason)
    have hstays := hends.stays
    have hseals := hends.seals
    rw [endRecord, hrecord] at hstays hseals
    exact ⟨_, rfl, ⟨hends.slots, hends.path, hends.cmd⟩, hends.otherFrames, hstays, hseals, hends.took, hends.notices,
      hends.coll, hends.lanes⟩
  · obtain ⟨hexec, hact⟩ := exec_end hcode due
    have htake : queuedFile (s.slots.table.get k) = some f →
        (Ev.start s.clearOut).actRecord k r addr (d.length == 64) d
          = ((Ev.start s.clearOut).endQueued k, [endedReport s k d]) := by
      intro hq
      rw [hact, actEnd_queued hq howner]
    rw [hexec]
    refine ⟨fun hslot => ?_, fun c l hslot hothers => ?_, fun c l hslot honly hfree => ?_⟩
    · have hq := htake (by rw [hslot]; rfl)
      rw [Ev.endQueued_lookup (e := Ev.start s.clearOut) hslot] at hq
      rw [takeWrite_record due hq rfl]
      have hquiet : (({ Ev.start s.clearOut with coll := leftLookup s.coll k } : Ev).setSlot k .idle).Quiet :=
        ⟨rfl, rfl, rfl⟩
      have hleft := Ev.accept_leftIn hquiet.reservesNone r
        (upstreamEntry r .control addr (s.decoder.control.store + (0x1000 + k.val * 64)) d) [endedReport s k d]
      exact ⟨_, rfl, queuedEnd_accepted hquiet.reservesNone rfl ⟨rfl, rfl, rfl, rfl⟩ rfl rfl rfl rfl rfl r _ _,
        (hquiet.accept r _ _).keepsNotices rfl, hleft.frames, hleft.lanes, hleft.coll⟩
    · have hq := htake (by rw [hslot]; rfl)
      rw [Ev.endQueued_waiting (e := Ev.start s.clearOut) hslot] at hq
      rw [takeWrite_record due hq rfl]
      have hquiet : (((Ev.start s.clearOut).leaveWait k).setSlot k .idle).Quiet := by
        refine ⟨rfl, ?_, rfl⟩
        show s.frames.waitQ.isEmpty = (s.frames.waitQ.filter (fun j => j != k)).isEmpty
        have hsome : s.frames.waitQ ≠ [] := fun h => hothers (by rw [h]; rfl)
        rw [List.isEmpty_eq_false_iff.mpr hsome, List.isEmpty_eq_false_iff.mpr hothers]
      have hleft := Ev.accept_leftIn hquiet.reservesNone r
        (upstreamEntry r .control addr (s.decoder.control.store + (0x1000 + k.val * 64)) d) [endedReport s k d]
      exact ⟨_, rfl, queuedEnd_accepted hquiet.reservesNone rfl ⟨rfl, rfl, rfl, rfl⟩ rfl rfl rfl rfl rfl r _ _,
        (hquiet.accept r _ _).keepsNotices rfl, hleft.coll, hleft.lanes, hleft.frames⟩
    · have hq := htake (by rw [hslot]; rfl)
      rw [Ev.endQueued_waiting (e := Ev.start s.clearOut) hslot] at hq
      rw [takeWrite_record due hq rfl]
      have hres : (((Ev.start s.clearOut).leaveWait k).setSlot k .idle).reservesNone := .inr hfree
      have hleft := Ev.accept_leftIn hres r
        (upstreamEntry r .control addr (s.decoder.control.store + (0x1000 + k.val * 64)) d) [endedReport s k d]
      have hempty : s.frames.waitQ.filter (fun j => j != k) = [] := by rw [honly]; simp
      have hwait : s.frames.waitQ.isEmpty = false := by rw [honly]; rfl
      refine ⟨_, rfl, queuedEnd_accepted hres rfl ⟨rfl, rfl, rfl, rfl⟩ rfl rfl rfl rfl rfl r _ _, hleft.coll,
        hleft.lanes, ?_, ?_⟩
      · refine hleft.frames.trans ?_
        rw [← hempty]
        rfl
      · obtain ⟨⟨⟨⟨hactive, _⟩, _⟩, _⟩, _⟩ := due
        have hnotes := Ev.finish_notes_emptied (e := (((Ev.start s.clearOut).leaveWait k).setSlot k .idle).acceptWrite r
          (upstreamEntry r .control addr (s.decoder.control.store + (0x1000 + k.val * 64)) d) [endedReport s k d])
          hactive hfree hwait hempty rfl
        rw [Posted, PostedFrom, hnotes, hleft.cmd, hleft.decoder]
        rfl

end Sys2Proof.Safety
end

section
/-! SUPPORT. Data writes (R35 to R38, R43 to R51): the branches of a slot-window write, strays, and the obligations on them. -/

namespace Sys2Proof.Machine

open Sys2Proof.Safety

/-! ### The branches of a slot-window write -/

theorem clamp_eq (length o n : Nat) : clamp length o n = min n (length - o) := by
  unfold clamp
  split
  · omega
  · split <;> omega

theorem Ev.slotWrite_owner {e : Ev} {k : SlotNo} {f : File} {c : ClassNo} {l : LaneNo} {p : Placement} {r : Requester}
    (h : e.slot k = .filling f c l p) (hr : f.owner = r) (o : Nat) (addr : UpAddr) (d : List Byte) :
    e.slotWrite k o r addr d = e.dataWrite k f c l p o d := by
  unfold Ev.slotWrite
  rw [h]
  exact if_pos hr

theorem Ev.slotWrite_idle {e : Ev} {k : SlotNo} (h : e.slot k = .idle) (o : Nat) (r : Requester) (addr : UpAddr)
    (d : List Byte) : e.slotWrite k o r addr d = .drop (e.countStray r addr) := by
  unfold Ev.slotWrite
  rw [h]

theorem Ev.slotWrite_foreign {e : Ev} {k : SlotNo} {f : File} {r : Requester} (h : (e.slot k).file? = some f)
    (hr : f.owner ≠ r) (o : Nat) (addr : UpAddr) (d : List Byte) :
    e.slotWrite k o r addr d = .drop (e.countStray r addr) := by
  unfold Ev.slotWrite
  cases hslot : e.slot k with
  | idle => rfl
  | lookup g => rw [hslot] at h; cases h; exact if_neg hr
  | waiting g c l => rw [hslot] at h; cases h; exact if_neg hr
  | filling g c l p => rw [hslot] at h; cases h; exact if_neg hr

/-- What is written of a file by a data write that begins within it (R43, R45). -/
abbrev written (f : File) (o : Nat) (d : List Byte) : File :=
  f.recordWrite o (d.take (min d.length (f.intent.length - o))) (d.length - min d.length (f.intent.length - o))

theorem File.recordWrite_intent (f : File) (o : Nat) (bytes : List Byte) (beyond : Nat) :
    (f.recordWrite o bytes beyond).intent = f.intent := rfl

theorem Ev.dataWrite_beyond (e : Ev) (k : SlotNo) {f : File} (c : ClassNo) (l : LaneNo) (p : Placement) {o : Nat}
    {d : List Byte} (ho : f.intent.length ≤ o) :
    e.dataWrite k f c l p o d = .drop (e.setSlot k (.filling { f with account := f.account.addOverrun d.length } c l p)) := by
  have hclamp : clamp f.intent.length o d.length = 0 := by rw [clamp_eq]; omega
  unfold Ev.dataWrite
  exact if_pos hclamp

/-- A data write with an in-file byte, by whether it ends the file (R36, R50). -/
theorem Ev.dataWrite_within (e : Ev) (k : SlotNo) {f : File} (c : ClassNo) (l : LaneNo) (p : Placement) {o : Nat}
    {d : List Byte} (ho : o < f.intent.length) (hd : 1 ≤ d.length) :
    e.dataWrite k f c l p o d
      = if (written f o d).covered ∧ (written f o d).intent.closeRequired = false then
          .take ((e.endFile k (written f o d) p .covered).1.sealIfEmpty p.frame) (.slotData k p.frame p.entry)
            (e.fileAddr p o) (d.take (min d.length (f.intent.length - o))) (e.endFile k (written f o d) p .covered).2
        else .take (e.setSlot k (.filling (written f o d) c l p)) (.slotData k p.frame p.entry) (e.fileAddr p o)
          (d.take (min d.length (f.intent.length - o))) [] := by
  have hclamp := clamp_eq f.intent.length o d.length
  have hpos : clamp f.intent.length o d.length ≠ 0 := by rw [hclamp]; omega
  unfold Ev.dataWrite
  simp only [if_neg hpos]
  rw [hclamp]

/-! ### Strays -/

theorem Ev.countStray_outstanding {e : Ev} {r : Requester} (h : e.notes.strayOut.get r = true) (addr : UpAddr) :
    e.countStray r addr = e.setNotes { e.notes with
      tallies := put e.notes.tallies r (min (e.notes.tallies.get r + 1) 65535) } := by
  unfold Ev.countStray
  exact if_pos h

theorem Ev.countStray_first {e : Ev} {r : Requester} (h : e.notes.strayOut.get r = false)
    (hactive : e.loader.state = .active) (addr : UpAddr) :
    e.countStray r addr = { e with
      notes := { e.notes with tallies := put e.notes.tallies r 0, strayOut := put e.notes.strayOut r true },
      posted := e.posted
        ++ [(.path, { time := e.cmd.bridgeTime, body := .stray r (min (e.notes.tallies.get r + 1) 65535) addr })] } := by
  unfold Ev.countStray
  rw [h]
  exact if_pos hactive

/-- Counting a stray changes the notice unit, and may post; nothing else (R38). -/
theorem Ev.countStray_form (e : Ev) (r : Requester) (addr : UpAddr) :
    ∃ notes posted, e.countStray r addr = { e with notes := notes, posted := posted } := by
  unfold Ev.countStray Ev.post
  dsimp only
  split
  · exact ⟨_, _, rfl⟩
  · split <;> exact ⟨_, _, rfl⟩

end Sys2Proof.Machine

namespace Sys2Proof.Safety

open Sys2Proof.Machine

/-- The notice unit after a write is dropped as a stray (R38). -/
theorem countStray_strayed {s : State} (hactive : s.loader.state = .active) (r : Requester) (addr : UpAddr) :
    Strayed s (((Ev.start s.clearOut).countStray r addr).answer r .accept).finish r addr := by
  refine ⟨fun hout => ?_, fun hout => ?_⟩
  · rw [Ev.countStray_outstanding (e := Ev.start s.clearOut) hout]
    have hquiet : (((Ev.start s.clearOut).setNotes { s.notes with
        tallies := put s.notes.tallies r (min (s.notes.tallies.get r + 1) 65535) }).answer r .accept).Quiet :=
      ⟨rfl, rfl, rfl⟩
    rw [PostedFrom, Ev.finish_decoder]
    exact hquiet.finish_notes
  · rw [Ev.countStray_first (e := Ev.start s.clearOut) hout hactive, PostedFrom, Ev.finish_decoder, Ev.finish_cmd]
    exact Ev.finish_notes (.inl (Ev.noReservation_of_same rfl rfl)) rfl

/-- A write dropped as a stray in an event of its own (R4, R38). -/
theorem countStray_dropped {s : State} (hactive : s.loader.state = .active) (r : Requester) (addr : UpAddr) :
    let t := (((Ev.start s.clearOut).countStray r addr).answer r .accept).finish
    Dropped s t r ∧ Strayed s t r addr ∧ KeepsPath s t ∧ KeepsPacking s t ∧ t.cmd = s.cmd := by
  have hstrayed := countStray_strayed hactive r addr
  obtain ⟨notes, posted, hform⟩ := (Ev.start s.clearOut).countStray_form r addr
  rw [hform] at hstrayed ⊢
  have hres : ({ Ev.start s.clearOut with notes := notes, posted := posted } : Ev).reservesNone :=
    .inl (Ev.noReservation_of_same rfl rfl)
  have hleft := Ev.drop_leftIn hres r
  exact ⟨Ev.drop_dropped hres rfl rfl rfl r, hstrayed, ⟨hleft.loader, hleft.decoder, hleft.port, hleft.pending⟩,
    ⟨hleft.slots, hleft.coll, hleft.lanes, hleft.frames, hleft.copy⟩, hleft.cmd⟩

/-- An event that replaces one slot's entry asks for no reservation and posts nothing. -/
theorem setSlot_quiet (s : State) (k : SlotNo) (y : SlotEntry) : ((Ev.start s.clearOut).setSlot k y).Quiet :=
  ⟨rfl, rfl, rfl⟩

/-- Settles O27: by the slot's state, the writer, and whether the write begins within the declared length. -/
theorem dataWritesFollowTheSlot : Obligations.DataWritesFollowTheSlot := by
  unfold Obligations.DataWritesFollowTheSlot
  intro s r addr d k o due
  have hexec : exec (.dataWrite r addr d) s = .next (s.takeWrite r addr d) := rfl
  have hsize : 1 ≤ d.length := due.2.1.1
  rw [hexec, takeWrite_slot due]
  refine ⟨fun f c l p hslot howner hin hroom hopen => ?_, fun f c l p hslot howner hend => ?_, fun hstray => ?_⟩
  · have hnot : ¬((written f o d).covered = true ∧ (written f o d).intent.closeRequired = false) := by
      rw [File.recordWrite_intent]
      rcases hopen with hcov | hreq
      · simp [hcov]
      · simp [hreq]
    have hquiet := setSlot_quiet s k (.filling (written f o d) c l p)
    rw [Ev.slotWrite_owner (e := Ev.start s.clearOut) hslot howner, Ev.dataWrite_within _ k c l p hin hsize, if_neg hnot,
      settleWrite_take hroom]
    have hleft := Ev.accept_leftIn hquiet.reservesNone r
      (upstreamEntry r (.slotData k p.frame p.entry) addr ((Ev.start s.clearOut).fileAddr p o)
        (d.take (min d.length (f.intent.length - o)))) []
    refine ⟨_, rfl, fun j => ?_, Ev.accept_took hquiet.reservesNone rfl rfl rfl r _ _,
      ⟨hleft.loader, hleft.decoder, hleft.port, hleft.pending⟩, (hquiet.accept r _ _).keepsNotices rfl, hleft.cmd,
      hleft.coll, hleft.lanes, hleft.frames, hleft.copy⟩
    rw [hleft.slots]
    exact get_put_read _ _ _ _
  · have hpos : d.length ≠ 0 := by omega
    have hquiet := setSlot_quiet s k (.filling { f with account := { f.account with
      overrun := true, overrunCount := min (f.account.overrunCount + d.length) 4294967295 } } c l p)
    rw [Ev.slotWrite_owner (e := Ev.start s.clearOut) hslot howner, Ev.dataWrite_beyond _ k c l p hend,
      State.settleWrite, Account.addOverrun, if_neg hpos]
    have hleft := Ev.drop_leftIn hquiet.reservesNone r
    refine ⟨_, rfl, Ev.drop_dropped hquiet.reservesNone rfl rfl rfl r, fun j => ?_,
      ⟨hleft.loader, hleft.decoder, hleft.port, hleft.pending⟩, (hquiet.drop r).keepsNotices rfl, hleft.cmd,
      hleft.coll, hleft.lanes, hleft.frames, hleft.copy⟩
    rw [hleft.slots]
    exact get_put_read _ _ _ _
  · have hdrop : (Ev.start s.clearOut).slotWrite k o r addr d = .drop ((Ev.start s.clearOut).countStray r addr) := by
      rcases hstray with hidle | ⟨f, hfile, howner⟩
      · exact Ev.slotWrite_idle (e := Ev.start s.clearOut) hidle o r addr d
      · exact Ev.slotWrite_foreign (e := Ev.start s.clearOut) hfile howner o addr d
    rw [hdrop]
    exact ⟨_, rfl, countStray_dropped due.1.1.1 r addr⟩

/-- A file that is covered ends COMPLETE, with a digest (R52). -/
theorem endReport_covered {g : File} (h : g.covered = true) :
    (g.endReport .covered).state = .complete ∧ g.finalDigest (g.endReport .covered) = g.acc.digest := by
  unfold File.covered at h
  cases hcov : g.account.coverage with
  | scattered => simp [hcov] at h
  | tracked l =>
    rw [hcov] at h
    simp only at h
    cases hvoid : g.account.digestVoid <;> simp [File.endReport, File.finalDigest, hcov, h, hvoid]

/-- Settles O29: the write is taken with the end of the file, which `endFile_accepted` describes. -/
theorem fullCoverageEndsTheFile : Obligations.FullCoverageEndsTheFile := by
  unfold Obligations.FullCoverageEndsTheFile
  intro s r addr d k o f c l p due hslot howner hin hroom n g fr report bytes hcov hreq
  obtain ⟨hcomplete, hdigest⟩ := endReport_covered hcov
  refine ⟨hcomplete, ?_⟩
  have hexec : exec (.dataWrite r addr d) s = .next (s.takeWrite r addr d) := rfl
  rw [hexec, takeWrite_slot due, Ev.slotWrite_owner (e := Ev.start s.clearOut) hslot howner,
    Ev.dataWrite_within _ k c l p hin due.2.1.1, if_pos ⟨hcov, hreq⟩, settleWrite_take hroom]
  have hends := endFile_accepted s r
    (upstreamEntry r (.slotData k p.frame p.entry) addr ((Ev.start s.clearOut).fileAddr p o)
      (d.take (min d.length (f.intent.length - o)))) k (written f o d) p .covered
  have htook := hends.took
  rw [endWrites, hcomplete, hdigest] at htook
  obtain ⟨hinFlight, hindex, hstate⟩ := hends.frame_fields
  exact ⟨_, rfl, hends.slots, hinFlight, hindex, hstate, hends.otherFrames, htook, hends.path, hends.notices, hends.cmd,
    hends.coll, hends.lanes⟩

end Sys2Proof.Safety
end

section
/-! SUPPORT. An OPEN taken: its route, its placement in the OPEN pack of its lane, its way through the lookup queue (R23, R24,
R70 to R73, R83, R93 to R95). -/

namespace Sys2Proof.Machine

open Sys2Proof.Safety

/-! ### A placement that leaves the pack OPEN -/

theorem Ev.touchLane_eq (e : Ev) (l : LaneNo) :
    e.touchLane l = e.setLane l { e.lane l with lastPlace := placedAt e.toState l } := by
  unfold Ev.touchLane placedAt
  split
  · show e = { e with lanes := { e.lanes with table := put e.lanes.table l (e.lanes.table.get l) } }
    rw [put_get_self]
  · rfl

theorem Ev.touchEntry_eq (e : Ev) (t : Tag) : e.touchEntry t = e.setEntries (touched t e.coll.entries) := by
  unfold Ev.touchEntry touched Ev.entryOf
  cases e.coll.entries.find? (fun c => c.tag == t) <;> rfl

/-- The event after a file is placed in the OPEN pack `n` of lane `l`, which stays OPEN. -/
def Ev.placedIn (e : Ev) (k : SlotNo) (f : File) (c : ClassNo) (l : LaneNo) (n : FrameNo) : Ev :=
  (((e.setFrame n (withFile (e.frame n) f.intent.length e.lanes.tick)).setSlot k
      (.filling f c l { frame := n, entry := (e.frame n).count, offset := (e.frame n).fill })).setLane l
    { e.lane l with lastPlace := placedAt e.toState l }).setEntries (touched f.intent.tag e.coll.entries)

/-! What a placement changes, field by field. -/

section

variable (e : Ev) (k : SlotNo) (f : File) (c : ClassNo) (l : LaneNo) (n : FrameNo)

@[simp] theorem Ev.placedIn_loader : (e.placedIn k f c l n).loader = e.loader := rfl
@[simp] theorem Ev.placedIn_decoder : (e.placedIn k f c l n).decoder = e.decoder := rfl
@[simp] theorem Ev.placedIn_port : (e.placedIn k f c l n).port = e.port := rfl
@[simp] theorem Ev.placedIn_pending : (e.placedIn k f c l n).pending = e.pending := rfl
@[simp] theorem Ev.placedIn_queue : (e.placedIn k f c l n).queue = e.queue := rfl
@[simp] theorem Ev.placedIn_copy : (e.placedIn k f c l n).copy = e.copy := rfl
@[simp] theorem Ev.placedIn_cmd : (e.placedIn k f c l n).cmd = e.cmd := rfl
@[simp] theorem Ev.placedIn_notes : (e.placedIn k f c l n).notes = e.notes := rfl
@[simp] theorem Ev.placedIn_linkOut : (e.placedIn k f c l n).linkOut = e.linkOut := rfl
@[simp] theorem Ev.placedIn_storeOut : (e.placedIn k f c l n).storeOut = e.storeOut := rfl
@[simp] theorem Ev.placedIn_slots : (e.placedIn k f c l n).slots =
    { table := put e.slots.table k
        (.filling f c l { frame := n, entry := (e.frame n).count, offset := (e.frame n).fill }) } := rfl
@[simp] theorem Ev.placedIn_frames : (e.placedIn k f c l n).frames = { e.frames with
    table := put e.frames.table n (withFile (e.frame n) f.intent.length e.lanes.tick) } := rfl
@[simp] theorem Ev.placedIn_lanes : (e.placedIn k f c l n).lanes = { e.lanes with
    table := put e.lanes.table l { e.lane l with lastPlace := placedAt e.toState l } } := rfl
@[simp] theorem Ev.placedIn_coll : (e.placedIn k f c l n).coll = { e.coll with
    entries := touched f.intent.tag e.coll.entries } := rfl

theorem Ev.placedIn_frame : (e.placedIn k f c l n).frame n = withFile (e.frame n) f.intent.length e.lanes.tick :=
  get_put_same _ _ _

theorem Ev.placedIn_slot : (e.placedIn k f c l n).slot k
    = .filling f c l { frame := n, entry := (e.frame n).count, offset := (e.frame n).fill } := get_put_same _ _ _

variable {e} in
/-- A placement posts nothing and keeps the frame-wait queue. -/
theorem Ev.placedIn_quiet (h : e.Quiet) : (e.placedIn k f c l n).Quiet := ⟨h.reserveDue, h.sameWait, h.posted⟩

end

/-- A pack that is below its target and its count after a placement is not closed by it (R95). -/
theorem Ev.place_staysOpen {e : Ev} {n : FrameNo} {f : File} (h : StaysOpen (e.frame n) f.intent.length) (k : SlotNo)
    (c : ClassNo) (l : LaneNo) : e.place k f c l n = e.placedIn k f c l n := by
  obtain ⟨hcount, htarget⟩ := h
  have hplace : e.place k f c l n = (e.placedIn k f c l n).testTarget n := by
    unfold Ev.place
    simp only [Ev.touchLane_eq, Ev.touchEntry_eq]
    rfl
  rw [hplace, Ev.testTarget, Ev.placedIn_frame]
  exact (if_neg (Nat.not_le.mpr htarget)).trans (if_neg (Nat.not_le.mpr hcount))

theorem Ev.fits_of_Fits {e : Ev} {f : Frame} {n : Nat} (h : Fits e.toState f n) : e.fits f n = true := by
  obtain ⟨hcount, hfill⟩ := h
  unfold State.fits
  rw [Bool.and_eq_true, decide_eq_true_eq, decide_eq_true_eq]
  exact ⟨hcount, hfill⟩

/-- With no slot waiting, a file that fits in its lane's OPEN pack goes there (R93). -/
theorem Ev.route_openPack {e : Ev} {f : File} {l : LaneNo} {n : FrameNo} (hwait : e.frames.waitQ = [])
    (hopen : (e.lane l).openFrame = some n) (hfits : Fits e.toState (e.frame n) f.intent.length)
    (hstays : StaysOpen (e.frame n) f.intent.length) (k : SlotNo) (c : ClassNo) :
    e.route k f c l = e.placedIn k f c l n := by
  unfold Ev.route
  rw [hwait]
  simp only [List.any_nil, Bool.false_eq_true, if_false, hopen, Ev.fits_of_Fits hfits, if_true]
  exact Ev.place_staysOpen hstays k c l

/-! ### The class and the lane of an OPEN -/

theorem classNo_of_val (c : ClassNo) : classNo? c.val = some c := dif_pos c.isLt

theorem classNo_none {n : Nat} (h : 8 ≤ n) : classNo? n = none := dif_neg (Nat.not_lt.mpr h)

/-- A file whose lane is decided without a new binding goes to that lane (R24, R69, R83 steps 1 to 3). -/
theorem decideRoute_routed {s : State} {d : List Byte} {c : ClassNo} {l : LaneNo} (h : RoutedTo s d c l) (k : SlotNo)
    (r : Requester) :
    (Ev.start s.clearOut).decideRoute k (newFile r d) = (Ev.start s.clearOut).route k (newFile r d) c l := by
  obtain ⟨hclass, hlane⟩ := h
  have hentry : (Ev.start s.clearOut).entryOf (newFile r d).intent.tag
      = s.coll.entries.find? (fun x => x.tag == BitVec.ofNat 32 (field d 8 4)) := rfl
  have hrec : (Ev.start s.clearOut).classRec c = s.coll.classes.get c := rfl
  have hchoose : (Ev.start s.clearOut).chooseLane (newFile r d).intent.tag c = (Ev.start s.clearOut, l) := by
    unfold Ev.chooseLane
    rw [hrec, hentry]
    rcases hlane with ⟨hown, rfl⟩ | ⟨hown, hnone, rfl⟩ | ⟨hown, hsome⟩
    · rw [hown]; rfl
    · rw [hown, hnone]; rfl
    · obtain ⟨x, hx, hxl⟩ := Option.map_eq_some_iff.mp hsome
      rw [hown, hx]
      simp only [Bool.not_true, Bool.false_eq_true, if_false, hxl]
  have hroute : (Ev.start s.clearOut).decideRoute k (newFile r d)
      = (Ev.start s.clearOut).routeClass k (newFile r d) c := by
    unfold Ev.decideRoute
    rcases hclass with hhint | ⟨hhint, hsome⟩
    · have hc : classNo? (newFile r d).intent.hint = some c := by
        rw [← classNo_of_val c]; exact congrArg classNo? hhint
      rw [hc]
    · obtain ⟨x, hx, hxc⟩ := Option.map_eq_some_iff.mp hsome
      rw [classNo_none (n := (newFile r d).intent.hint) hhint, hentry, hx, ← hxc]
  rw [hroute, Ev.routeClass, hchoose]

/-! ### The writes of an OPEN -/

/-- An OPEN of a declared length that it may have, for an IDLE slot, is routed (R23, R24). -/
theorem actRecord_openRouted {s : State} {r : Requester} {addr : UpAddr} {d : List Byte} {k : SlotNo} {own : Nat}
    (due : RecordDue s r addr d k 1 own) (hslot : s.slots.table.get k = .idle) (hlen : LengthOk d) :
    (Ev.start s.clearOut).actRecord k r addr (d.length == 64) d
      = ((Ev.start s.clearOut).decideRoute k (newFile r d)).openWrites k := by
  obtain ⟨hpos, hmax⟩ := hlen
  have hzero : (newFile r d).intent.length ≠ 0 := Nat.ne_of_gt hpos
  have hlarge : ¬16777216 < (newFile r d).intent.length := Nat.not_lt.mpr hmax
  rw [actRecord_open due, actOpen_idle (e := Ev.start s.clearOut) hslot]
  unfold Ev.openIdle
  rw [if_neg hzero, if_neg hlarge]

/-- An event that has made no own write has the slot's report alone for the OPEN (R12, R33). -/
theorem Ev.openWrites_of_made_nil {e : Ev} (h : e.made = []) (k : SlotNo) : e.openWrites k = (e, [e.reportOf k]) := by
  unfold Ev.openWrites
  rw [h]
  simp only [List.filter_nil, List.nil_append, Prod.mk.injEq, and_true]
  rw [← h]

theorem Ev.reportOf_filling {e : Ev} {k : SlotNo} {f : File} {c : ClassNo} {l : LaneNo} {p : Placement}
    (h : e.slot k = .filling f c l p) :
    e.reportOf k = e.statusWrite k 3 .placed f.lastReq 0
      (some { frame := p.frame, entry := p.entry, serial := (e.frame p.frame).serial }) 0 := by
  simp only [Ev.reportOf, Ev.statusOf, h, Ev.statusPlace]

theorem Ev.reportOf_lookup {e : Ev} {k : SlotNo} {f : File} (h : e.slot k = .lookup f) :
    e.reportOf k = e.statusWrite k 1 .queuedLookup f.lastReq 0 none 0 := by
  simp only [Ev.reportOf, Ev.statusOf, h, SlotEntry.code]

end Sys2Proof.Machine

namespace Sys2Proof.Safety

open Sys2Proof.Machine

/-- The state at the beginning of an event that has changed the collection table's entries alone. -/
abbrev withEntries (s : State) (entries : List CollEntry) : Ev := (Ev.start s.clearOut).setEntries entries

/-- The report of a file placed in the OPEN pack (R33). -/
abbrev placedReport (s : State) (k : SlotNo) (d : List Byte) (n : FrameNo) : OwnWrite :=
  s.statusWrite k 3 .placed (BitVec.ofNat 8 (field d 1 1)) 0
    (some { frame := n, entry := (s.frames.table.get n).count, serial := (s.frames.table.get n).serial }) 0

/-- What an OPEN leaves whose file goes to the OPEN pack `n` of lane `l`, with the table's entries then as given. -/
theorem open_placed {s : State} {r : Requester} {addr : UpAddr} {d : List Byte} {k : SlotNo} {c : ClassNo} {l : LaneNo}
    {n : FrameNo} {entries : List CollEntry} (due : RecordDue s r addr d k 1 1) (hslot : s.slots.table.get k = .idle)
    (hlen : LengthOk d)
    (hroute : (Ev.start s.clearOut).decideRoute k (newFile r d) = (withEntries s entries).placedIn k (newFile r d) c l n) :
    ∃ t, exec (.openFile r addr d) s = .next t
      ∧ (∀ j : SlotNo, t.slots.table.get j
          = if j = k then .filling (openedFile r d) c l
              { frame := n, entry := (s.frames.table.get n).count, offset := (s.frames.table.get n).fill }
            else s.slots.table.get j)
      ∧ t.frames.table.get n = withFile (s.frames.table.get n) (field d 12 4) s.lanes.tick ∧ OtherFrames s t n
      ∧ t.lanes.table.get l = { s.lanes.table.get l with lastPlace := placedAt s l }
      ∧ (∀ m : LaneNo, m ≠ l → t.lanes.table.get m = s.lanes.table.get m)
      ∧ Took s t r (upstreamEntry r .control addr (s.decoder.control.store + (0x1000 + k.val * 64)) d)
          [placedReport s k d n]
      ∧ t.coll = { s.coll with entries := touched (BitVec.ofNat 32 (field d 8 4)) entries }
      ∧ KeepsPath s t ∧ KeepsNotices s t ∧ t.cmd = s.cmd ∧ t.copy = s.copy := by
  have hact := actRecord_openRouted due hslot hlen
  have hreport : ((withEntries s entries).placedIn k (newFile r d) c l n).reportOf k = placedReport s k d n := by
    rw [Ev.reportOf_filling (Ev.placedIn_slot _ k _ c l n), Ev.placedIn_frame]
    rfl
  rw [hroute, Ev.openWrites_of_made_nil rfl, hreport] at hact
  have hexec : exec (.openFile r addr d) s = .next (s.takeWrite r addr d) := rfl
  rw [hexec, takeWrite_record due hact rfl]
  generalize upstreamEntry r .control addr (s.decoder.control.store + (0x1000 + k.val * 64)) d = x
  have hquiet := Ev.placedIn_quiet k (newFile r d) c l n (e := withEntries s entries) ⟨rfl, rfl, rfl⟩
  obtain ⟨hloader, hdecoder, hport, hpending, hslots, hcoll, hlanes, hframes, hcopy, hcmd⟩ :=
    Ev.accept_leftIn hquiet.reservesNone r x [placedReport s k d n]
  refine ⟨_, rfl, fun j => ?_, ?_, fun m hm => ?_, ?_, fun m hm => ?_,
    Ev.accept_took hquiet.reservesNone (Ev.placedIn_queue ..) (Ev.placedIn_linkOut ..) (Ev.placedIn_storeOut ..) r x _,
    ?_, ?_, (hquiet.accept r x _).keepsNotices ((Ev.acceptWrite_notes ..).trans (Ev.placedIn_notes ..)), ?_, ?_⟩
  · rw [hslots, Ev.placedIn_slots]; exact get_put_read _ _ _ _
  · rw [hframes, Ev.placedIn_frames]; exact get_put_same _ _ _
  · rw [hframes, Ev.placedIn_frames]; exact get_put_other _ _ _ _ hm.symm
  · rw [hlanes, Ev.placedIn_lanes]; exact get_put_same _ _ _
  · rw [hlanes, Ev.placedIn_lanes]; exact get_put_other _ _ _ _ hm.symm
  · rw [hcoll, Ev.placedIn_coll]; rfl
  · rw [KeepsPath, hloader, hdecoder, hport, hpending]; simp
  · rw [hcmd]; simp
  · rw [hcopy]; simp

/-- Settles O17: the class and lane are decided at once, the pack takes the file and stays OPEN. -/
theorem openIsPlacedInTheOpenPack : Obligations.OpenIsPlacedInTheOpenPack := by
  unfold Obligations.OpenIsPlacedInTheOpenPack
  intro s r addr d k c l n due hslot hlen hrouted hopen hwait hfits hstays
  refine open_placed due hslot hlen (entries := s.coll.entries) ?_
  rw [decideRoute_routed hrouted, Ev.route_openPack (e := Ev.start s.clearOut) (f := newFile r d) hwait hopen.1 hfits hstays]
  rfl

end Sys2Proof.Safety
end

section
/-! SUPPORT. The lookup queue and the caching of a class (R70 to R73), and the obligation on them. -/

namespace Sys2Proof.Machine

open Sys2Proof.Safety

/-! ### The search that an idle engine begins -/

/-- The search begun for slot `j` over the whole external table as it stands (R73). -/
def Collections.beginSearch (c : Collections) (j : SlotNo) (tag : Tag) : Search :=
  { slot := j, claimed := true, tag := tag, base := c.extBase, count := c.extCount, lo := 0, hi := c.extCount - 1 }

/-- The event after the probe of search `q` is sent. -/
def Ev.probed (e : Ev) (q : Search) : Ev :=
  ((e.setSearch (some q)).setQueue
    { e.queue with probes := e.queue.probes ++ [{ addr := q.probeAddr, live := true }] }).send (.read q.probeAddr 16)

theorem Ev.probe_inStore (e : Ev) {q : Search} (h : q.probeAddr + 16 ≤ 2 ^ 40) : e.probe q = e.probed q :=
  if_pos (decide_eq_true h)

theorem Ev.serve_busy {e : Ev} {q : Search} (h : e.coll.search = some q) (n : Nat) : e.serve n = e := by
  cases n with
  | zero => rfl
  | succ n => simp only [Ev.serve, h]

theorem Ev.serveAll_busy {e : Ev} {q : Search} (h : e.coll.search = some q) : e.serveAll = e := Ev.serve_busy h _

/-- The probe of a search's middle entry at its beginning (R74). -/
theorem Collections.beginSearch_probeAddr (c : Collections) (j : SlotNo) (tag : Tag) :
    (c.beginSearch j tag).probeAddr = c.extBase + (c.extCount - 1) / 2 * 16 := by
  simp [Collections.beginSearch, Search.probeAddr]

/-- An idle engine begins a search for the head of its queue, whose tag the table does not hold (R73). -/
theorem Ev.serveAll_begins {e : Ev} {j : SlotNo} {more : List SlotNo} {f : File} (hidle : e.coll.search = none)
    (hqueue : e.coll.lookupQ = j :: more) (hslot : e.slot j = .lookup f) (htag : e.entryOf f.intent.tag = none)
    (hcount : e.coll.extCount ≠ 0) (hstore : e.coll.extBase + (e.coll.extCount - 1) / 2 * 16 + 16 ≤ 2 ^ 40) :
    e.serveAll = e.probed (e.coll.beginSearch j f.intent.tag) := by
  rw [← Collections.beginSearch_probeAddr e.coll j f.intent.tag] at hstore
  have hbusy : (e.probed (e.coll.beginSearch j f.intent.tag)).coll.search
      = some (e.coll.beginSearch j f.intent.tag) := rfl
  calc e.serveAll = (e.probe (e.coll.beginSearch j f.intent.tag)).serve e.coll.lookupQ.length := by
        simp only [Ev.serveAll, Ev.serve, hidle, hqueue, hslot, htag, if_neg hcount]
        rfl
    _ = (e.probed (e.coll.beginSearch j f.intent.tag)).serve e.coll.lookupQ.length := by rw [Ev.probe_inStore e hstore]
    _ = e.probed (e.coll.beginSearch j f.intent.tag) := Ev.serve_busy hbusy _

/-! ### The class given to a tag that is cached (R72) -/

/-- The entry of a tag that an empty table count gives class 0. -/
abbrev cachedEntry (tag : Tag) : CollEntry := { tag := tag, cls := 0, pinned := false, listed := false, lane := none }

/-- A CACHED entry without a lane: one that a new entry may displace. -/
abbrev spare (y : CollEntry) : Bool := !y.pinned && y.lane.isNone

theorem Ev.cacheResult_room {e : Ev} (h : e.coll.entries.length < 128) (tag : Tag) :
    e.cacheResult tag 0 false = e.setEntries (cachedEntry tag :: e.coll.entries) := if_pos h

theorem dropLeastRecent_split {front back : List CollEntry} {y : CollEntry} (hy : spare y = true)
    (hback : back.any spare = false) : dropLeastRecent spare (front ++ y :: back) = some (y, front ++ back) := by
  have hnone : ∀ x ∈ back.reverse, ¬spare x = true := by
    intro x hx
    simpa using List.any_eq_false.mp hback x (List.mem_reverse.mp hx)
  have hreverse : (front ++ y :: back).reverse = back.reverse ++ y :: front.reverse := by simp
  have hfind : (back.reverse ++ y :: front.reverse).find? spare = some y := by
    rw [List.find?_append, List.find?_eq_none.mpr hnone, Option.none_or, List.find?_cons_of_pos hy]
  have herase : (back.reverse ++ y :: front.reverse).eraseP spare = back.reverse ++ front.reverse := by
    rw [List.eraseP_append_right _ hnone, List.eraseP_cons_of_pos hy]
  simp only [dropLeastRecent, hreverse, hfind, herase, List.reverse_append, List.reverse_reverse]

theorem dropLeastRecent_none {l : List CollEntry} (h : l.any spare = false) : dropLeastRecent spare l = none := by
  have hfind : l.reverse.find? spare = none := by
    rw [List.find?_eq_none]
    intro x hx
    simpa using List.any_eq_false.mp h x (List.mem_reverse.mp hx)
  simp only [dropLeastRecent, hfind]

theorem Ev.cacheResult_displaces {e : Ev} {front back : List CollEntry} {y : CollEntry}
    (hfull : 128 ≤ e.coll.entries.length) (hentries : e.coll.entries = front ++ y :: back) (hy : spare y = true)
    (hback : back.any spare = false) (tag : Tag) :
    e.cacheResult tag 0 false = e.setEntries (cachedEntry tag :: (front ++ back)) := by
  unfold Ev.cacheResult
  rw [if_neg (Nat.not_lt.mpr hfull), hentries, dropLeastRecent_split hy hback]

theorem Ev.cacheResult_kept {e : Ev} (hfull : 128 ≤ e.coll.entries.length) (hnone : e.coll.entries.any spare = false)
    (tag : Tag) : e.cacheResult tag 0 false = e.setEntries e.coll.entries := by
  unfold Ev.cacheResult
  rw [if_neg (Nat.not_lt.mpr hfull), dropLeastRecent_none hnone]
  rfl

/-- A new entry of a tag that no other entry has stays at the most recent place. -/
theorem touched_cons {tag : Tag} {l : List CollEntry} (h : l.find? (fun x => x.tag == tag) = none) :
    touched tag (cachedEntry tag :: l) = cachedEntry tag :: l := by
  have hother : ∀ x ∈ l, (x.tag != tag) = true := by
    intro x hx
    have := List.find?_eq_none.mp h x hx
    simpa using this
  simp [touched, List.filter_eq_self.mpr hother]

theorem touched_absent {tag : Tag} {l : List CollEntry} (h : l.find? (fun x => x.tag == tag) = none) :
    touched tag l = l := by
  simp [touched, h]

end Sys2Proof.Machine

namespace Sys2Proof.Safety

open Sys2Proof.Machine

/-- The slot of an OPEN of an unknown tag stands in LOOKUP at the tail of the lookup queue (R24). -/
def queuedOpen (s : State) (k : SlotNo) (f : File) : Ev :=
  ((Ev.start s.clearOut).setSlot k (.lookup f)).setLookupQ (s.coll.lookupQ ++ [k])

/-- The event that has put a slot into LOOKUP, with the lookup engine, its probes and the reads sent as given. -/
def lookupOpen (s : State) (k : SlotNo) (f : File) (coll : Collections) (probes : List OutProbe)
    (out : List StoreRequest) : Ev :=
  { (Ev.start s.clearOut).setSlot k (.lookup f) with
    coll := coll, queue := { s.queue with probes := probes }, storeOut := out }

theorem lookupOpen_slot (s : State) (k : SlotNo) (f : File) (coll : Collections) (probes : List OutProbe)
    (out : List StoreRequest) : (lookupOpen s k f coll probes out).slot k = .lookup f := get_put_same _ _ _

theorem queuedOpen_eq (s : State) (k : SlotNo) (f : File) :
    queuedOpen s k f = lookupOpen s k f { s.coll with lookupQ := s.coll.lookupQ ++ [k] } s.queue.probes [] := rfl

theorem queuedOpen_probed (s : State) (k : SlotNo) (f : File) (q : Search) :
    (queuedOpen s k f).probed q
      = lookupOpen s k f { s.coll with lookupQ := s.coll.lookupQ ++ [k], search := some q }
          (s.queue.probes ++ [{ addr := q.probeAddr, live := true }]) [.read q.probeAddr 16] := rfl

section
variable {s : State} {r : Requester} {addr : UpAddr} {d : List Byte} {k : SlotNo}

/-- The route of an OPEN with no class hint, of a tag that the table does not hold (R24, R70). -/
theorem decideRoute_unknown (hhint : 8 ≤ field d 22 1)
    (htag : s.coll.entries.find? (fun x => x.tag == BitVec.ofNat 32 (field d 8 4)) = none) (r : Requester) (k : SlotNo) :
    (Ev.start s.clearOut).decideRoute k (newFile r d)
      = if s.coll.extCount = 0 then
          ((Ev.start s.clearOut).cacheResult (BitVec.ofNat 32 (field d 8 4)) 0 false).routeClass k (newFile r d) 0
        else (queuedOpen s k (newFile r d)).serveAll := by
  have hentry : (Ev.start s.clearOut).entryOf (newFile r d).intent.tag = none := htag
  unfold Ev.decideRoute
  rw [classNo_none (n := (newFile r d).intent.hint) hhint, hentry]
  rfl

/-- The placement of a file in class 0 whose lane is the common one (R72, R83). -/
theorem routeClass_common {entries : List CollEntry} {n : FrameNo} {f : File}
    (hown : (s.coll.classes.get 0).ownLane = false) (hwait : s.frames.waitQ = []) (hopen : HoldsOpen s 0 n)
    (hfits : Fits s (s.frames.table.get n) f.intent.length) (hstays : StaysOpen (s.frames.table.get n) f.intent.length) :
    (withEntries s entries).routeClass k f 0 = (withEntries s entries).placedIn k f 0 0 n := by
  have hchoose : (withEntries s entries).chooseLane f.intent.tag 0 = (withEntries s entries, 0) := by
    unfold Ev.chooseLane
    have hrec : (withEntries s entries).classRec 0 = s.coll.classes.get 0 := rfl
    rw [hrec, hown]
    rfl
  rw [Ev.routeClass, hchoose]
  exact Ev.route_openPack (e := withEntries s entries) hwait hopen.1 hfits hstays k 0

/-- What an OPEN leaves whose file waits for its class: the slot in LOOKUP and its report, and the lookup engine as the
event has made it (R24, R73). -/
theorem open_queued {coll : Collections} {probes : List OutProbe} {out : List StoreRequest}
    (due : RecordDue s r addr d k 1 1) (hslot : s.slots.table.get k = .idle) (hlen : LengthOk d)
    (hroute : (Ev.start s.clearOut).decideRoute k (newFile r d) = lookupOpen s k (newFile r d) coll probes out) :
    ∃ t, exec (.openFile r addr d) s = .next t
      ∧ ((∀ j : SlotNo, t.slots.table.get j = if j = k then .lookup (openedFile r d) else s.slots.table.get j)
        ∧ t.frames = s.frames ∧ t.lanes = s.lanes ∧ t.copy = s.copy ∧ t.cmd = s.cmd ∧ KeepsPath s t ∧ KeepsNotices s t)
      ∧ Queued s t r (upstreamEntry r .control addr (s.decoder.control.store + (0x1000 + k.val * 64)) d)
          [s.statusWrite k 1 .queuedLookup (BitVec.ofNat 8 (field d 1 1)) 0 none 0]
      ∧ t.coll = coll ∧ t.queue.probes = probes ∧ t.storeOut = out := by
  have hact := actRecord_openRouted due hslot hlen
  have hquiet : (lookupOpen s k (newFile r d) coll probes out).Quiet := ⟨rfl, rfl, rfl⟩
  have hreport : (lookupOpen s k (newFile r d) coll probes out).reportOf k
      = s.statusWrite k 1 .queuedLookup (BitVec.ofNat 8 (field d 1 1)) 0 none 0 := by
    rw [Ev.reportOf_lookup (lookupOpen_slot ..)]
    rfl
  rw [hroute, Ev.openWrites_of_made_nil rfl, hreport] at hact
  have hexec : exec (.openFile r addr d) s = .next (s.takeWrite r addr d) := rfl
  rw [hexec, takeWrite_record due hact rfl]
  generalize upstreamEntry r .control addr (s.decoder.control.store + (0x1000 + k.val * 64)) d = x
  generalize s.statusWrite k 1 .queuedLookup (BitVec.ofNat 8 (field d 1 1)) 0 none 0 = w
  obtain ⟨hloader, hdecoder, hport, hpending, hslots, hcoll, hlanes, hframes, hcopy, hcmd⟩ :=
    Ev.accept_leftIn hquiet.reservesNone r x [w]
  refine ⟨_, rfl, ⟨fun j => ?_, hframes, hlanes, hcopy, hcmd, ⟨hloader, hdecoder, hport, hpending⟩,
      (hquiet.accept r x [w]).keepsNotices rfl⟩,
    Ev.accept_queued hquiet.reservesNone rfl rfl rfl rfl r x [w], hcoll, Ev.finish_probes _, Ev.finish_storeOut _⟩
  rw [hslots]
  exact get_put_read _ _ _ _

/-- What an OPEN leaves whose file's class is given at once by a table count of 0 (R72). -/
theorem open_cached {n : FrameNo} {entries : List CollEntry} (due : RecordDue s r addr d k 1 1)
    (hslot : s.slots.table.get k = .idle) (hlen : LengthOk d) (hhint : 8 ≤ field d 22 1)
    (htag : s.coll.entries.find? (fun x => x.tag == BitVec.ofNat 32 (field d 8 4)) = none) (hcount : s.coll.extCount = 0)
    (hown : (s.coll.classes.get 0).ownLane = false) (hwait : s.frames.waitQ = []) (hopen : HoldsOpen s 0 n)
    (hfits : Fits s (s.frames.table.get n) (field d 12 4)) (hstays : StaysOpen (s.frames.table.get n) (field d 12 4))
    (hcache : (Ev.start s.clearOut).cacheResult (BitVec.ofNat 32 (field d 8 4)) 0 false = withEntries s entries)
    (htouched : touched (BitVec.ofNat 32 (field d 8 4)) entries = entries) :
    ∃ t, exec (.openFile r addr d) s = .next t
      ∧ t.slots.table.get k = .filling (openedFile r d) 0 0
          { frame := n, entry := (s.frames.table.get n).count, offset := (s.frames.table.get n).fill }
      ∧ t.coll = { s.coll with entries := entries }
      ∧ Took s t r (upstreamEntry r .control addr (s.decoder.control.store + (0x1000 + k.val * 64)) d)
          [placedReport s k d n] := by
  have hroute : (Ev.start s.clearOut).decideRoute k (newFile r d)
      = (withEntries s entries).placedIn k (newFile r d) 0 0 n := by
    rw [decideRoute_unknown hhint htag, if_pos hcount, hcache]
    exact routeClass_common hown hwait hopen hfits hstays
  obtain ⟨t, hexec, hslots, _, _, _, _, htook, hcoll, _⟩ := open_placed due hslot hlen hroute
  rw [htouched] at hcoll
  exact ⟨t, hexec, (hslots k).trans (if_pos rfl), hcoll, htook⟩

/-- The event in which the oldest probe is answered, before what its answer does. -/
def probeTaken (s : State) (rest : List OutProbe) : Ev :=
  (Ev.start s.clearOut).setQueue { s.queue with probes := rest }

/-- The event in which an unclaimed search ends by the fault of its probe: reported, and the engine idle (R76). -/
def probeFaulted (s : State) (rest : List OutProbe) (q : Search) : Ev :=
  ((probeTaken s rest).post .lookup (.lookupFault q.slot q.probeAddr q.tag)).setSearch none

theorem exec_probeFault {y : OutProbe} {rest : List OutProbe} {q : Search} (hprobes : s.queue.probes = y :: rest)
    (hlive : y.live = true) (hsearch : s.coll.search = some q) (hclaim : q.claimed = false) :
    exec (.probeAnswer .fault) s = .next (probeFaulted s rest q).serveAll.finish := by
  have hended : (probeTaken s rest).searchStep q .fault = probeFaulted s rest q := by
    unfold Ev.searchStep Ev.lookupFault Ev.endSearch
    rw [hclaim]
    rfl
  have hturn : exec (.probeAnswer .fault) s = .next ((probeTaken s rest).searchStep q .fault).serveAll.finish := by
    show execProbeAnswer .fault s = _
    unfold execProbeAnswer
    rw [hprobes]
    simp only [hlive, fitsProbe, Bool.not_true, Bool.and_false, Bool.false_eq_true, if_false, State.run, State.event]
    rw [show ((Ev.start s.clearOut).setQueue { (Ev.start s.clearOut).queue with probes := rest }).coll.search = some q
      from hsearch]
    rfl
  rw [hturn, hended]

/-- An engine that goes idle by a fault of an unclaimed search serves the next head of its queue (R73, R76, R77). -/
theorem probeFault_serves {y : OutProbe} {rest : List OutProbe} {q : Search} {j : SlotNo} {more : List SlotNo} {f : File}
    (hprobes : s.queue.probes = y :: rest) (hlive : y.live = true) (hsearch : s.coll.search = some q)
    (hclaim : q.claimed = false) (hqueue : s.coll.lookupQ = j :: more) (hslot : s.slots.table.get j = .lookup f)
    (htag : s.coll.entries.find? (fun x => x.tag == f.intent.tag) = none) (hcount : s.coll.extCount ≠ 0)
    (hstore : s.coll.extBase + (s.coll.extCount - 1) / 2 * 16 + 16 ≤ 2 ^ 40) :
    ∃ t, exec (.probeAnswer .fault) s = .next t ∧ t.slots = s.slots
      ∧ t.coll = { s.coll with search := some (s.coll.beginSearch j f.intent.tag) }
      ∧ t.queue.probes = rest ++ [{ addr := s.coll.extBase + (s.coll.extCount - 1) / 2 * 16, live := true }]
      ∧ t.storeOut = [.read (s.coll.extBase + (s.coll.extCount - 1) / 2 * 16) 16] := by
  have hcoll : (probeFaulted s rest q).coll = { s.coll with search := none } := by simp [probeFaulted, probeTaken]
  have hserve : (probeFaulted s rest q).serveAll
      = (probeFaulted s rest q).probed (s.coll.beginSearch j f.intent.tag) := by
    rw [Ev.serveAll_begins (e := probeFaulted s rest q) (j := j) (more := more) (f := f) (by rw [hcoll])
      (by rw [hcoll]; exact hqueue) (by simpa [probeFaulted, probeTaken, Ev.slot] using hslot)
      (by rw [Ev.entryOf, hcoll]; exact htag) (by rw [hcoll]; exact hcount) (by rw [hcoll]; exact hstore), hcoll]
    rfl
  refine ⟨_, by rw [exec_probeFault hprobes hlive hsearch hclaim, hserve], ?_, ?_, ?_, ?_⟩
  · simp [Ev.probed, probeFaulted, probeTaken]
  · simp [Ev.probed, probeFaulted, probeTaken]
  · simp [Ev.probed, probeFaulted, probeTaken, Collections.beginSearch_probeAddr]
  · simp [Ev.probed, probeFaulted, probeTaken, Collections.beginSearch_probeAddr]

end

/-- Settles O21: by whether the OPEN finds an external table, and by the engine that serves the queue. -/
theorem lookupsAreQueuedCachedAndServed : Obligations.LookupsAreQueuedCachedAndServed := by
  unfold Obligations.LookupsAreQueuedCachedAndServed
  intro s
  refine ⟨fun r addr d k due hslot hlen hhint htag => ⟨fun hcount => ⟨fun q hsearch => ?_, fun hidle hempty hstore => ?_⟩,
    fun n hcount hown hwait hopen hfits hstays => ⟨fun hroom => ?_, fun front y back hfull hentries hy hback => ?_,
      fun hfull hnone => ?_⟩⟩,
    fun y rest q j more f hprobes hlive hsearch hclaim hqueue hslot htag hcount hstore => ?_⟩
  · have hroute := decideRoute_unknown hhint htag r k
    rw [if_neg hcount, Ev.serveAll_busy (e := queuedOpen s k (newFile r d)) hsearch, queuedOpen_eq] at hroute
    obtain ⟨t, hexec, hwaits, hqueued, hcoll, hprobes, hout⟩ := open_queued due hslot hlen hroute
    exact ⟨t, hexec, hwaits, ⟨hqueued, hprobes, hout⟩, hcoll⟩
  · have hroute := decideRoute_unknown hhint htag r k
    rw [if_neg hcount, Ev.serveAll_begins (e := queuedOpen s k (newFile r d)) (j := k) (more := []) (f := newFile r d)
      hidle (by rw [queuedOpen, Ev.setLookupQ, hempty]; rfl) (get_put_same _ _ _) htag hcount hstore,
      queuedOpen_probed] at hroute
    have hprobe := Collections.beginSearch_probeAddr (queuedOpen s k (newFile r d)).coll k (newFile r d).intent.tag
    obtain ⟨t, hexec, hwaits, hqueued, hcoll, hprobes, hout⟩ := open_queued due hslot hlen hroute
    rw [hempty] at hcoll
    rw [hprobe] at hprobes hout
    exact ⟨t, hexec, hwaits, hqueued, hcoll, hprobes, hout⟩
  · exact open_cached due hslot hlen hhint htag hcount hown hwait hopen hfits hstays (Ev.cacheResult_room hroom _)
      (touched_cons htag)
  · have hothers : (front ++ back).find? (fun x => x.tag == BitVec.ofNat 32 (field d 8 4)) = none := by
      rw [hentries] at htag
      simp only [List.find?_eq_none, List.mem_append, List.mem_cons] at htag ⊢
      exact fun x hx => htag x (hx.imp_right .inr)
    exact open_cached due hslot hlen hhint htag hcount hown hwait hopen hfits hstays
      (Ev.cacheResult_displaces hfull hentries hy hback _) (touched_cons hothers)
  · exact open_cached due hslot hlen hhint htag hcount hown hwait hopen hfits hstays (Ev.cacheResult_kept hfull hnone _)
      (touched_absent htag)
  · exact probeFault_serves hprobes hlive hsearch hclaim hqueue hslot htag hcount hstore

end Sys2Proof.Safety
end

section
/-! SUPPORT. The straggler expiry (R115): the files of a CLOSING frame end one by one, the frame's seal begins with the last,
and what all of it comes to. -/

namespace Sys2Proof.Machine

open Sys2Proof.Safety

/-! ### The files of a frame -/

/-- The placed files of frame `n` among the slots `ks`, with their slots. -/
def filesIn (n : FrameNo) (slot : SlotNo → SlotEntry) (ks : List SlotNo) : List (SlotNo × File × Placement) :=
  ks.filterMap (fun k => ((placedFile (slot k)).filter (fun y => y.2.frame == n)).map (fun y => (k, y)))

theorem inFrame_iff (n : FrameNo) (x : SlotEntry) :
    inFrame n x = true ↔ ∃ f c l p, x = .filling f c l p ∧ p.frame = n := by
  cases x <;> simp [inFrame, placedFile]

theorem filesIn_cons_in {n : FrameNo} {slot : SlotNo → SlotEntry} {k : SlotNo} {f : File} {c : ClassNo} {l : LaneNo}
    {p : Placement} (h : slot k = .filling f c l p) (hp : p.frame = n) (ks : List SlotNo) :
    filesIn n slot (k :: ks) = (k, f, p) :: filesIn n slot ks := by
  simp [filesIn, h, placedFile, hp]

theorem filesIn_cons_out {n : FrameNo} {slot : SlotNo → SlotEntry} {k : SlotNo} (h : inFrame n (slot k) = false)
    (ks : List SlotNo) : filesIn n slot (k :: ks) = filesIn n slot ks := by
  have hnone : (placedFile (slot k)).filter (fun y => y.2.frame == n) = none := by
    cases hx : slot k with
    | filling f c l p => simpa [inFrame, hx, placedFile] using h
    | idle => rfl
    | lookup f => rfl
    | waiting f c l => rfl
  simp [filesIn, hnone]

theorem filesIn_congr {n : FrameNo} {slot slot' : SlotNo → SlotEntry} {ks : List SlotNo}
    (h : ∀ k ∈ ks, slot' k = slot k) : filesIn n slot' ks = filesIn n slot ks :=
  List.filterMap_congr (fun k hk => by rw [h k hk])

theorem frame_of_mem_filesIn {n : FrameNo} {slot : SlotNo → SlotEntry} {ks : List SlotNo}
    {x : SlotNo × File × Placement} (h : x ∈ filesIn n slot ks) : x.2.2.frame = n := by
  obtain ⟨k, _, hk⟩ := List.mem_filterMap.mp h
  obtain ⟨y, hy, rfl⟩ := Option.map_eq_some_iff.mp hk
  simpa using (Option.filter_eq_some_iff.mp hy).2

theorem filesIn_length (n : FrameNo) (slot : SlotNo → SlotEntry) (ks : List SlotNo) :
    (filesIn n slot ks).length = ks.countP (fun k => inFrame n (slot k)) := by
  induction ks with
  | nil => rfl
  | cons k ks ih =>
    cases hin : inFrame n (slot k)
    · rw [filesIn_cons_out hin, ih, List.countP_cons_of_neg (by simp [hin])]
    · obtain ⟨f, c, l, p, hslot, hp⟩ := (inFrame_iff n (slot k)).mp hin
      rw [filesIn_cons_in hslot hp, List.length_cons, ih, List.countP_cons_of_pos (by simp [hin])]

theorem countP_get {α : Type} {m : Nat} (v : Vector α m) (p : α → Bool) :
    (List.finRange m).countP (fun i => p (v.get i)) = v.toList.countP p := by
  have hlist : v.toList = (List.finRange m).map v.get := by
    apply List.ext_getElem
    · simp
    · intro i h₁ h₂
      simp [Vector.get]
  rw [hlist, List.countP_map]
  rfl

/-! ### The end of one file, apart from the seal -/

/-- A file of slot `k` placed in frame `n` ends FORCED, but for the seal that may follow (R28, R115). -/
def Ev.forceOne (n : FrameNo) (e : Ev) (k : SlotNo) : Ev :=
  match e.slot k with
  | .filling f _ _ p =>
    if p.frame = n then
      { (e.setFrame p.frame (endRecord e.toState k f p .forced)).setSlot k .idle with
        made := e.made ++ endWrites e.toState k f p .forced }
    else e
  | _ => e

theorem Ev.forceOne_in {n : FrameNo} {e : Ev} {k : SlotNo} {f : File} {c : ClassNo} {l : LaneNo} {p : Placement}
    (h : e.slot k = .filling f c l p) (hp : p.frame = n) :
    Ev.forceOne n e k = { (e.setFrame n (endRecord e.toState k f p .forced)).setSlot k .idle with
      made := e.made ++ endWrites e.toState k f p .forced } := by
  unfold Ev.forceOne
  rw [h]
  subst hp
  exact if_pos rfl

theorem Ev.forceOne_out {n : FrameNo} {e : Ev} {k : SlotNo} (h : inFrame n (e.slot k) = false) :
    Ev.forceOne n e k = e := by
  unfold Ev.forceOne
  cases hslot : e.slot k with
  | filling f c l p => exact if_neg (by simpa [inFrame, placedFile, hslot] using h)
  | idle => rfl
  | lookup f => rfl
  | waiting f c l => rfl

theorem Ev.forceEnd_out {n : FrameNo} {e : Ev} {k : SlotNo} (h : inFrame n (e.slot k) = false) :
    Ev.forceEnd n e k = e := by
  unfold Ev.forceEnd
  cases hslot : e.slot k with
  | filling f c l p => exact if_neg (by simpa [inFrame, placedFile, hslot] using h)
  | idle => rfl
  | lookup f => rfl
  | waiting f c l => rfl

/-- The end of a file in the model is the end of one file and then the test for the seal. -/
theorem Ev.forceEnd_in {n : FrameNo} {e : Ev} {k : SlotNo} {f : File} {c : ClassNo} {l : LaneNo} {p : Placement}
    (h : e.slot k = .filling f c l p) (hp : p.frame = n) :
    Ev.forceEnd n e k = (Ev.forceOne n e k).sealIfEmpty n := by
  subst hp
  rw [Ev.forceOne_in h rfl]
  unfold Ev.forceEnd Ev.endFileHeld
  simp only [h, if_true]
  rfl

/-- Slots other than the one whose file ends are as they were. -/
theorem Ev.forceOne_otherSlot (n : FrameNo) (e : Ev) {k j : SlotNo} (h : j ≠ k) :
    (Ev.forceOne n e k).slot j = e.slot j := by
  cases hin : inFrame n (e.slot k)
  · rw [Ev.forceOne_out hin]
  · obtain ⟨f, c, l, p, hslot, hp⟩ := (inFrame_iff n (e.slot k)).mp hin
    rw [Ev.forceOne_in hslot hp]
    exact get_put_other _ _ _ _ h.symm

theorem Ev.forceOne_frame {n : FrameNo} {e : Ev} {k : SlotNo} {f : File} {c : ClassNo} {l : LaneNo} {p : Placement}
    (h : e.slot k = .filling f c l p) (hp : p.frame = n) :
    (Ev.forceOne n e k).frame n = endRecord e.toState k f p .forced := by
  rw [Ev.forceOne_in h hp]
  exact get_put_same _ _ _

theorem Ev.forceOne_state {n : FrameNo} {e : Ev} {k : SlotNo} {f : File} {c : ClassNo} {l : LaneNo} {p : Placement}
    (h : e.slot k = .filling f c l p) (hp : p.frame = n) :
    ((Ev.forceOne n e k).frame n).state = (e.frame n).state := by
  rw [Ev.forceOne_frame h hp, endRecord, Frame.ended_eq, hp]
  rfl

theorem Ev.forceOne_inFlight {n : FrameNo} {e : Ev} {k : SlotNo} {f : File} {c : ClassNo} {l : LaneNo} {p : Placement}
    (h : e.slot k = .filling f c l p) (hp : p.frame = n) :
    ((Ev.forceOne n e k).frame n).inFlight = (e.frame n).inFlight - 1 := by
  rw [Ev.forceOne_frame h hp, endRecord, Frame.ended_eq, hp]
  rfl

/-! ### The seal begins with the last file -/

/-- A frame whose seal has begun is not CLOSING any more, so it does not seal again. -/
theorem Ev.sealIfEmpty_idem (e : Ev) (n : FrameNo) : (e.sealIfEmpty n).sealIfEmpty n = e.sealIfEmpty n := by
  by_cases h : e.sealDue n
  · rw [Ev.sealIfEmpty_due h]
    refine Ev.sealIfEmpty_not_due (fun hdue => ?_)
    have hstate : ((e.beginSeal n).frame n).state = .sealing := by rw [Ev.beginSeal_frame]
    rw [hdue.1] at hstate
    exact absurd hstate (by decide)
  · rw [Ev.sealIfEmpty_not_due h, Ev.sealIfEmpty_not_due h]

theorem foldl_forceEnd_out {n : FrameNo} {e : Ev} {ks : List SlotNo} (h : ∀ k ∈ ks, inFrame n (e.slot k) = false) :
    ks.foldl (Ev.forceEnd n) e = e := by
  induction ks with
  | nil => rfl
  | cons k ks ih =>
    rw [List.foldl_cons, Ev.forceEnd_out (h k (List.mem_cons_self ..))]
    exact ih (fun j hj => h j (List.mem_cons_of_mem k hj))

theorem foldl_forceOne_out {n : FrameNo} {e : Ev} {ks : List SlotNo} (h : ∀ k ∈ ks, inFrame n (e.slot k) = false) :
    ks.foldl (Ev.forceOne n) e = e := by
  induction ks with
  | nil => rfl
  | cons k ks ih =>
    rw [List.foldl_cons, Ev.forceOne_out (h k (List.mem_cons_self ..))]
    exact ih (fun j hj => h j (List.mem_cons_of_mem k hj))

/-- Where the in-flight count of CLOSING frame `n` counts the slots still to come, its seal begins when the last of its
files has ended, as if all files ended first (R116). -/
theorem foldl_forceEnd_seal {n : FrameNo} (ks : List SlotNo) (hks : ks.Nodup) :
    ∀ e : Ev, (e.frame n).state = .closing → (e.frame n).inFlight = ks.countP (fun k => inFrame n (e.slot k)) →
      (ks.foldl (Ev.forceEnd n) e).sealIfEmpty n = (ks.foldl (Ev.forceOne n) e).sealIfEmpty n := by
  induction ks with
  | nil => intro e _ _; rfl
  | cons k ks ih =>
    intro e hstate hcount
    obtain ⟨hk, hks⟩ := List.nodup_cons.mp hks
    rw [List.foldl_cons, List.foldl_cons]
    cases hin : inFrame n (e.slot k)
    · rw [List.countP_cons_of_neg (by simp [hin])] at hcount
      rw [Ev.forceEnd_out hin, Ev.forceOne_out hin]
      exact ih hks e hstate hcount
    · obtain ⟨f, c, l, p, hslot, hp⟩ := (inFrame_iff n (e.slot k)).mp hin
      rw [List.countP_cons_of_pos (by simp [hin])] at hcount
      have hstate' := (Ev.forceOne_state hslot hp).trans hstate
      have hsame : ks.countP (fun j => inFrame n ((Ev.forceOne n e k).slot j)) = ks.countP (fun j => inFrame n (e.slot j)) :=
        List.countP_congr (fun j hj => by rw [Ev.forceOne_otherSlot n e (ne_of_mem_of_not_mem hj hk)])
      have hcount' : ((Ev.forceOne n e k).frame n).inFlight
          = ks.countP (fun j => inFrame n ((Ev.forceOne n e k).slot j)) := by
        rw [Ev.forceOne_inFlight hslot hp, hcount, hsame]
        rfl
      rw [Ev.forceEnd_in hslot hp]
      by_cases hlast : ((Ev.forceOne n e k).frame n).inFlight = 0
      · have hout : ∀ j ∈ ks, inFrame n ((Ev.forceOne n e k).slot j) = false := by
          intro j hj
          simpa using List.countP_eq_zero.mp (hcount'.symm.trans hlast) j hj
        have hout' : ∀ j ∈ ks, inFrame n (((Ev.forceOne n e k).sealIfEmpty n).slot j) = false := by
          intro j hj
          rw [Ev.slot, ((Ev.forceOne n e k).sealIfEmpty_keeps n).slots]
          exact hout j hj
        rw [foldl_forceEnd_out hout', foldl_forceOne_out hout, Ev.sealIfEmpty_idem]
      · rw [Ev.sealIfEmpty_not_due (fun hdue => hlast hdue.2)]
        exact ih hks _ hstate' hcount'

/-! ### What the ends of all files come to -/

theorem put_put {α : Type} {n : Nat} (v : Vector α n) (i : Fin n) (x y : α) : put (put v i x) i y = put v i y := by
  show (v.set i.val x i.isLt).set i.val y i.isLt = v.set i.val y i.isLt
  exact Vector.set_set ..

/-- The index entry of a file that ends FORCED at a bridge time (R28, R115). -/
abbrev forcedEntry (time : Seconds) (x : SlotNo × File × Placement) : List Byte :=
  indexEntryBytes x.2.1 x.1 x.2.2 .forced (x.2.1.endReport .forced) time

/-- A frame's record after files of it have ended FORCED, one after the other (R64, R66, R108). -/
def Frame.endAll (time : Seconds) (fr : Frame) (xs : List (SlotNo × File × Placement)) : Frame :=
  xs.foldl (fun fr x => fr.ended x.2.1 x.2.2 (x.2.1.endReport .forced) (forcedEntry time x)) fr

/-- The own writes of files that end FORCED in state `s`, one file after the other. -/
def forcedWrites (s : State) (xs : List (SlotNo × File × Placement)) : List OwnWrite :=
  xs.flatMap (fun x => endWrites s x.1 x.2.1 x.2.2 .forced)

/-- The writes of a file's end are made of its frame's serial and of values that the end of another file keeps. -/
theorem endWrites_congr {s t : State} {p : Placement} (hdecoder : t.decoder = s.decoder)
    (hexp : t.frames.exp = s.frames.exp) (hcmd : t.cmd = s.cmd)
    (hserial : (t.frames.table.get p.frame).serial = (s.frames.table.get p.frame).serial) (k : SlotNo) (f : File)
    (reason : EndReason) : endWrites t k f p reason = endWrites s k f p reason := by
  simp only [endWrites, endEntry, State.statusWrite, State.controlAddr, hdecoder, hexp, hcmd, hserial]

theorem forcedWrites_forceOne {n : FrameNo} {e : Ev} {k : SlotNo} {f : File} {c : ClassNo} {l : LaneNo} {p : Placement}
    (h : e.slot k = .filling f c l p) (hp : p.frame = n) {xs : List (SlotNo × File × Placement)}
    (hxs : ∀ x ∈ xs, x.2.2.frame = n) :
    forcedWrites (Ev.forceOne n e k).toState xs = forcedWrites e.toState xs := by
  have hserial : ((Ev.forceOne n e k).frame n).serial = (e.frame n).serial := by
    rw [Ev.forceOne_frame h hp, endRecord, Frame.ended_eq, hp]
    rfl
  refine List.flatMap_congr (fun x hx => endWrites_congr ?_ ?_ ?_ ?_ _ _ _)
  · rw [Ev.forceOne_in h hp]; rfl
  · rw [Ev.forceOne_in h hp]; rfl
  · rw [Ev.forceOne_in h hp]; rfl
  · rw [hxs x hx]; exact hserial

/-- The files of frame `n` in the slots `ks` ended one after the other: the slots, the frame's record and the own writes;
nothing else changes. -/
theorem foldl_forceOne_eq {n : FrameNo} (ks : List SlotNo) (hks : ks.Nodup) :
    ∀ e : Ev, ∃ table : Vector SlotEntry 512,
      ks.foldl (Ev.forceOne n) e = { e with
        slots := { table := table }
        frames := { e.frames with
          table := put e.frames.table n ((e.frame n).endAll e.cmd.bridgeTime (filesIn n e.slot ks)) }
        made := e.made ++ forcedWrites e.toState (filesIn n e.slot ks) }
      ∧ ∀ j, table.get j = if j ∈ ks ∧ inFrame n (e.slot j) = true then .idle else e.slot j := by
  induction ks with
  | nil =>
    intro e
    refine ⟨e.slots.table, ?_, fun j => by simp [Ev.slot]⟩
    simp [filesIn, Frame.endAll, forcedWrites, Ev.frame, put_get_self]
  | cons k ks ih =>
    intro e
    obtain ⟨hk, hks⟩ := List.nodup_cons.mp hks
    rw [List.foldl_cons]
    cases hin : inFrame n (e.slot k)
    · obtain ⟨table, heq, htable⟩ := ih hks e
      rw [Ev.forceOne_out hin, filesIn_cons_out hin]
      refine ⟨table, heq, fun j => ?_⟩
      rw [htable j]
      by_cases hj : j = k
      · subst hj; simp [hin]
      · simp [hj]
    · obtain ⟨f, c, l, p, hslot, hp⟩ := (inFrame_iff n (e.slot k)).mp hin
      obtain ⟨table, heq, htable⟩ := ih hks (Ev.forceOne n e k)
      have hfiles : filesIn n (Ev.forceOne n e k).slot ks = filesIn n e.slot ks :=
        filesIn_congr (fun j hj => Ev.forceOne_otherSlot n e (ne_of_mem_of_not_mem hj hk))
      have hwrites := forcedWrites_forceOne hslot hp (xs := filesIn n e.slot ks) (fun x hx => frame_of_mem_filesIn hx)
      rw [hfiles, hwrites, Ev.forceOne_frame hslot hp] at heq
      refine ⟨table, ?_, fun j => ?_⟩
      · rw [heq, filesIn_cons_in hslot hp, Ev.forceOne_in hslot hp]
        subst hp
        simp [put_put, Frame.endAll, forcedWrites, endRecord, Ev.frame]
      · rw [htable j]
        by_cases hj : j = k
        · subst hj
          have hidle : (Ev.forceOne n e j).slot j = .idle := by rw [Ev.forceOne_in hslot hp]; exact get_put_same _ _ _
          simp [hk, hin, hidle]
        · simp [hj, Ev.forceOne_otherSlot n e hj]

/-- Whether a file that ends FORCED is folded into its frame's body sums (R64). -/
abbrev foldsForced (x : SlotNo × File × Placement) : Bool :=
  (x.2.1.endReport .forced).digestState != .void && (x.2.1.endReport .forced).digestState != .absent

/-- A frame's record after its files have ended FORCED, spelled out: each file is folded in its turn. -/
theorem Frame.endAll_eq (time : Seconds) (xs : List (SlotNo × File × Placement)) :
    ∀ fr : Frame, fr.endAll time xs = { fr with
      inFlight := fr.inFlight - xs.length
      body := xs.foldl (fun a x => if foldsForced x then
        { s := (a.s + x.2.1.acc.s) % 65521,
          p := (a.p + x.2.1.acc.p + x.2.2.offset % 65521 * x.2.1.acc.s % 65521) % 65521 } else a) fr.body
      index := xs.foldl (fun a x => a.addBytes (x.2.2.entry * 64) (forcedEntry time x)) fr.index } := by
  induction xs with
  | nil => intro fr; rfl
  | cons x xs ih =>
    intro fr
    have hfirst : fr.endAll time (x :: xs)
        = (fr.ended x.2.1 x.2.2 (x.2.1.endReport .forced) (forcedEntry time x)).endAll time xs := rfl
    rw [hfirst, ih, Frame.ended_eq]
    have hbody : (if (x.2.1.endReport .forced).digestState = .void ∨ (x.2.1.endReport .forced).digestState = .absent
          then fr.body
          else { s := (fr.body.s + x.2.1.acc.s) % 65521,
                 p := (fr.body.p + x.2.1.acc.p + x.2.2.offset % 65521 * x.2.1.acc.s % 65521) % 65521 })
        = if foldsForced x then
          { s := (fr.body.s + x.2.1.acc.s) % 65521,
            p := (fr.body.p + x.2.1.acc.p + x.2.2.offset % 65521 * x.2.1.acc.s % 65521) % 65521 } else fr.body := by
      cases hdigest : (x.2.1.endReport .forced).digestState <;> simp [foldsForced, hdigest]
    simp only [hbody, List.foldl_cons, List.length_cons, Nat.sub_sub, Nat.add_comm 1]

/-- A file that ends FORCED leaves its digest in the final status word (R62). -/
theorem finalDigest_forced (f : File) : f.finalDigest (f.endReport .forced) = f.acc.digest := by
  have hpresent : (f.endReport .forced).digestState ≠ .absent := by
    unfold File.endReport
    cases f.account.coverage with
    | scattered => cases f.account.digestVoid <;> simp
    | tracked l =>
      cases hfull : fullCoverage f.intent.length l <;> cases f.account.digestVoid <;> simp [hfull]
  exact if_neg hpresent

end Sys2Proof.Machine

namespace Sys2Proof.Safety

open Sys2Proof.Machine

/-- The event of the straggler expiry of frame `n` before any file has ended: FORCED is set (R115). -/
def forcedStart (s : State) (n : FrameNo) : Ev :=
  ({ Ev.start s.clearOut with inOrder := true } : Ev).setFrame n { s.frames.table.get n with forced := true }

/-- The same event once every file of the frame has ended. -/
def forcedAll (s : State) (n : FrameNo) : Ev := (List.finRange 512).foldl (Ev.forceOne n) (forcedStart s n)

/-- The placed files of frame `n`, by ascending slot number. -/
abbrev filesOf (s : State) (n : FrameNo) : List (SlotNo × File × Placement) :=
  filesIn n s.slots.table.get (List.finRange 512)

theorem forcedStart_frame (s : State) (n : FrameNo) :
    (forcedStart s n).frame n = { s.frames.table.get n with forced := true } := get_put_same _ _ _

section
variable {s : State} {n : FrameNo}

theorem filesOf_length : (filesOf s n).length = s.slots.table.toList.countP (inFrame n) := by
  rw [filesIn_length]
  exact countP_get s.slots.table (inFrame n)

/-- What the event has made of the state when every file of the frame has ended. -/
theorem forcedAll_eq : ∃ table : Vector SlotEntry 512,
    forcedAll s n = { forcedStart s n with
      slots := { table := table }
      frames := { s.frames with
        table := put s.frames.table n
          ({ s.frames.table.get n with forced := true }.endAll s.cmd.bridgeTime (filesOf s n)) }
      made := forcedWrites (forcedStart s n).toState (filesOf s n) }
    ∧ ∀ j, table.get j = if inFrame n (s.slots.table.get j) then .idle else s.slots.table.get j := by
  obtain ⟨table, heq, htable⟩ := foldl_forceOne_eq (n := n) (List.finRange 512) (List.nodup_finRange 512) (forcedStart s n)
  have hfiles : filesIn n (forcedStart s n).slot (List.finRange 512) = filesOf s n := filesIn_congr (fun _ _ => rfl)
  refine ⟨table, ?_, fun j => ?_⟩
  · rw [forcedAll, heq, forcedStart_frame, hfiles]
    generalize filesOf s n = xs
    simp only [forcedStart, Ev.setFrame_frames, put_put]
    rfl
  · have hslot : (forcedStart s n).slot j = s.slots.table.get j := rfl
    rw [htable j, hslot]
    by_cases hin : inFrame n (s.slots.table.get j) = true
    · rw [if_pos hin, if_pos ⟨List.mem_finRange j, hin⟩]
    · rw [if_neg hin, if_neg (fun h => hin h.2)]

theorem forcedAll_frame : (forcedAll s n).frame n
    = { s.frames.table.get n with forced := true }.endAll s.cmd.bridgeTime (filesOf s n) := by
  obtain ⟨table, heq, _⟩ := forcedAll_eq (s := s) (n := n)
  rw [heq]
  exact get_put_same _ _ _

/-- The straggler expiry of a CLOSING frame whose in-flight count counts its files: they all end, and its seal begins. -/
theorem expireStraggler_due (hstate : (s.frames.table.get n).state = .closing)
    (hdue : (if s.frames.straggler = 0 then 120 else s.frames.straggler)
      ≤ (s.lanes.tick - (s.frames.table.get n).closeTick).toNat)
    (hcount : (s.frames.table.get n).inFlight = s.slots.table.toList.countP (inFrame n)) :
    ({ Ev.start s.clearOut with inOrder := true } : Ev).expireStraggler n = (forcedAll s n).beginSeal n := by
  have htimer : State.stragglerDue ({ Ev.start s.clearOut with inOrder := true } : Ev).toState
      (({ Ev.start s.clearOut with inOrder := true } : Ev).frame n) = true := by
    simp only [State.stragglerDue, Bool.and_eq_true, beq_iff_eq, decide_eq_true_eq]
    exact ⟨hstate, hdue⟩
  have hstart : ((forcedStart s n).frame n).inFlight
      = (List.finRange 512).countP (fun k => inFrame n ((forcedStart s n).slot k)) := by
    rw [forcedStart_frame]
    exact hcount.trans (countP_get s.slots.table (inFrame n)).symm
  have hends := foldl_forceEnd_seal (List.finRange 512) (List.nodup_finRange 512) (forcedStart s n)
    (by rw [forcedStart_frame]; exact hstate) hstart
  have hlast : (forcedAll s n).sealDue n := by
    rw [Ev.sealDue, forcedAll_frame, Frame.endAll_eq, filesOf_length, ← hcount]
    exact ⟨hstate, Nat.sub_self _⟩
  unfold Ev.expireStraggler
  rw [if_pos htimer]
  exact hends.trans (Ev.sealIfEmpty_due hlast)

theorem forcedAll_made : (forcedAll s n).made = forcedWrites (forcedStart s n).toState (filesOf s n) := by
  obtain ⟨table, heq, _⟩ := forcedAll_eq (s := s) (n := n)
  rw [heq]

theorem forcedAll_copy : (forcedAll s n).copy = s.copy := by
  obtain ⟨table, heq, _⟩ := forcedAll_eq (s := s) (n := n)
  rw [heq]
  rfl

/-- The event of a straggler expiry adds nothing but what it has made to the queue and the notices. -/
theorem forcedAll_quiet : (forcedAll s n).Quiet := by
  obtain ⟨table, heq, _⟩ := forcedAll_eq (s := s) (n := n)
  rw [heq]
  exact ⟨rfl, rfl, rfl⟩

/-- The writes made for a file that has ended: its index entry and its final status word, by the frame's serial (R28). -/
theorem forced_writes_made {x : SlotNo × File × Placement} (hx : x ∈ filesOf s n) :
    ∀ w ∈ ([{ kind := .indexEntry n x.2.2.entry (s.frames.table.get n).serial,
              addr := s.decoder.pack.store + n.val * 2 ^ s.frames.exp + 512 + x.2.2.entry * 64,
              data := forcedEntry s.cmd.bridgeTime x },
            s.statusWrite x.1 0 .ended x.2.1.lastReq (x.2.1.endReport .forced).state.code
              (some { frame := n, entry := x.2.2.entry, serial := (s.frames.table.get n).serial }) x.2.1.acc.digest]
          : List OwnWrite), w ∈ (forcedAll s n).made := by
  have hframe := frame_of_mem_filesIn hx
  have hserial : ((forcedStart s n).frames.table.get x.2.2.frame).serial = (s.frames.table.get x.2.2.frame).serial := by
    have hstart := congrArg Frame.serial (forcedStart_frame s n)
    rw [hframe]
    exact hstart
  have hwrites : endWrites (forcedStart s n).toState x.1 x.2.1 x.2.2 .forced = endWrites s x.1 x.2.1 x.2.2 .forced :=
    endWrites_congr (s := s) (t := (forcedStart s n).toState) rfl rfl rfl hserial _ _ _
  intro w hw
  rw [forcedAll_made, forcedWrites, List.mem_flatMap]
  refine ⟨x, hx, ?_⟩
  rw [hwrites, endWrites, finalDigest_forced, hframe]
  exact hw

end

/-- Settles O9: the files end as `forcedAll_eq` says, and the seal begins behind them. -/
theorem stragglerExpiryForcesTheFiles : Obligations.StragglerExpiryForcesTheFiles := by
  unfold Obligations.StragglerExpiryForcesTheFiles
  intro s n hactive hstate hdue hcount
  have hexec : exec (.stragglerExpiry n) s = .next ((forcedAll s n).beginSeal n).finish := by
    rw [← expireStraggler_due hstate hdue hcount]
    exact if_pos hactive
  have hkeeps := (forcedAll s n).beginSeal_keeps n
  have hquiet := hkeeps.quiet forcedAll_quiet
  have hleft := Ev.finish_leftIn hquiet.reservesNone
  obtain ⟨hrecord, hcopy, hheader⟩ :=
    Ev.beginSeal_finished (n := n) hquiet.reservesNone rfl rfl rfl hkeeps.decoder hkeeps.cmd
  have hmade : ∀ w ∈ (forcedAll s n).made, Made ((forcedAll s n).beginSeal n).finish w := fun w hw =>
    Ev.finish_made (by rw [Ev.beginSeal_made]; exact List.mem_append_left _ hw)
  rw [forcedAll_frame, Frame.endAll_eq, filesOf_length, ← hcount, Nat.sub_self] at hrecord
  obtain ⟨table, heq, htable⟩ := forcedAll_eq (s := s) (n := n)
  refine ⟨_, hexec, fun k => ?_, ?_, fun x hx => ⟨?_, ?_⟩, hheader, ?_, fun m hm => ?_, ?_, ?_, ?_,
    hquiet.keepsNotices ?_⟩
  · rw [hleft.slots, hkeeps.slots, heq]; exact htable k
  · rw [forcedAll_copy] at hrecord
    exact hrecord
  · exact hmade _ (forced_writes_made hx _ (List.mem_cons_self ..))
  · exact hmade _ (forced_writes_made hx _ (List.mem_cons_of_mem _ (List.mem_cons_self ..)))
  · rw [hcopy, heq]; rfl
  · rw [hleft.frames]
    refine (hkeeps.otherFrame hm).trans ?_
    rw [heq]
    exact get_put_other _ _ _ _ hm.symm
  · rw [hleft.coll, hkeeps.coll, heq]; rfl
  · rw [hleft.lanes, hkeeps.lanes, heq]; rfl
  · rw [hleft.cmd, hkeeps.cmd, heq]; rfl
  · rw [hkeeps.notes, heq]; rfl

end Sys2Proof.Safety
end

section
/-! SUPPORT. The extent list of a file and what its end reports (R42 to R48, R52, R53). -/

namespace Sys2Proof.Machine

open Sys2Proof.Safety

/-! ### Full coverage and the end of a file -/

theorem fullCoverage_iff (n : Nat) (l : List Extent) : fullCoverage n l = true ↔ l = [{ start := 0, stop := n }] := by
  simp [fullCoverage]

/-- What an abandoned file reports (R52, R53). -/
theorem endReport_abandoned (f : File) :
    (f.endReport .abandoned).state = .abandoned ∧ (f.endReport .abandoned).digestState = .absent := ⟨rfl, rfl⟩

/-- A digest once voided is reported so (R53). -/
theorem endReport_void {f : File} {reason : EndReason} (hend : reason ≠ .abandoned)
    (hvoid : f.account.digestVoid = true) : (f.endReport reason).digestState = .void := by
  simp [File.endReport, hend, hvoid]

theorem endReport_missing_tracked {f : File} {l : List Extent} (h : f.account.coverage = .tracked l)
    (reason : EndReason) : (f.endReport reason).missing = some (f.intent.length - coveredAmount l) := by
  by_cases hend : reason = .abandoned <;> simp [File.endReport, hend, h]

/-- What a file with its extents in a list reports, unless it is abandoned, by whether it is full (R52, R53). -/
theorem endReport_tracked {f : File} {l : List Extent} (h : f.account.coverage = .tracked l) {reason : EndReason}
    (hend : reason ≠ .abandoned) :
    (f.endReport reason).state = (if fullCoverage f.intent.length l then .complete else .incomplete)
      ∧ (f.account.digestVoid = false →
        (f.endReport reason).digestState = if fullCoverage f.intent.length l then .valid else .partly) := by
  cases hfull : fullCoverage f.intent.length l <;> simp +contextual [File.endReport, hend, h, hfull]

/-- What a SCATTERED file reports (R49, R52, R53). -/
theorem endReport_scattered {f : File} (h : f.account.coverage = .scattered) (reason : EndReason) :
    f.covered = false ∧ (f.endReport reason).missing = none
      ∧ (reason ≠ .abandoned → (f.endReport reason).state = .unverified
        ∧ (f.account.digestVoid = false → (f.endReport reason).digestState = .unchecked)) := by
  by_cases hend : reason = .abandoned <;> simp +contextual [File.covered, File.endReport, h, hend]

end Sys2Proof.Machine

namespace Sys2Proof.Safety

open Sys2Proof.Machine

/-- Settles O25: by the end reason, the void flag and the kind of coverage. -/
theorem endReportsFollowCoverage : Obligations.EndReportsFollowCoverage := by
  unfold Obligations.EndReportsFollowCoverage
  intro f reason
  refine ⟨fun hend => ?_, endReport_void, fun hscattered => endReport_scattered hscattered reason, fun l htracked => ?_⟩
  · subst hend
    exact endReport_abandoned f
  · refine ⟨endReport_missing_tracked htracked reason, fun hend hfull => ?_, fun hend hpart => ?_⟩
    · simpa [(fullCoverage_iff _ l).mpr hfull] using endReport_tracked htracked hend
    · simpa [mt (fullCoverage_iff _ l).mp hpart] using endReport_tracked htracked hend

end Sys2Proof.Safety
end

section
/-! SUPPORT. A write recorded in a file's account: the overrun, the rewrite test and the merge (R41 to R48). -/

namespace Sys2Proof.Machine

open Sys2Proof.Safety

/-! ### The fixed form of an extent list (R42) -/

theorem orderedFrom_cons (n lo : Nat) (x : Extent) (xs : List Extent) :
    orderedFrom n lo (x :: xs) = true
      ↔ (lo ≤ x.start ∧ x.start < x.stop ∧ x.stop ≤ n) ∧ orderedFrom n (x.stop + 1) xs = true := by
  simp [orderedFrom]

theorem orderedFrom_lower {n lo lo' : Nat} (hle : lo' ≤ lo) {l : List Extent} (h : orderedFrom n lo l = true) :
    orderedFrom n lo' l = true := by
  cases l with
  | nil => rfl
  | cons x xs =>
    rw [orderedFrom_cons] at h ⊢
    obtain ⟨⟨hlo, hx⟩, hxs⟩ := h
    exact ⟨⟨hle.trans hlo, hx⟩, hxs⟩

theorem covers_cons (x : Extent) (xs : List Extent) (i : Nat) :
    covers (x :: xs) i ↔ (x.start ≤ i ∧ i < x.stop) ∨ covers xs i := by
  simp [covers]

/-- A merge keeps the fixed form (R42, R47): a range that meets the head is widened by it and goes on down the list. -/
theorem orderedFrom_mergeExtent {n : Nat} (l : List Extent) : ∀ {lo : Nat} {x : Extent}, orderedFrom n lo l = true →
    lo ≤ x.start → x.start < x.stop → x.stop ≤ n → orderedFrom n lo (mergeExtent x l) = true := by
  induction l with
  | nil =>
    intro lo x _ hlo hne hn
    exact (orderedFrom_cons ..).mpr ⟨⟨hlo, hne, hn⟩, rfl⟩
  | cons y ys ih =>
    intro lo x h hlo hne hn
    obtain ⟨⟨hylo, hyne, hyn⟩, hys⟩ := (orderedFrom_cons ..).mp h
    unfold mergeExtent
    split
    · next hbefore =>
      exact (orderedFrom_cons ..).mpr
        ⟨⟨hlo, hne, hn⟩, (orderedFrom_cons ..).mpr ⟨⟨hbefore, hyne, hyn⟩, hys⟩⟩
    · split
      · next hbehind => exact (orderedFrom_cons ..).mpr ⟨⟨hylo, hyne, hyn⟩, ih hys hbehind hne hn⟩
      · have hwide : orderedFrom n lo ys = true := orderedFrom_lower (by omega) hys
        exact ih hwide (by simp; omega) (by simp; omega) (by simp; omega)

/-- A merge adds exactly the range's offsets (R47): two ranges that meet have no offset between them. -/
theorem covers_mergeExtent {n : Nat} (l : List Extent) (i : Nat) : ∀ {lo : Nat} {x : Extent},
    orderedFrom n lo l = true → x.start < x.stop →
    (covers (mergeExtent x l) i ↔ covers l i ∨ (x.start ≤ i ∧ i < x.stop)) := by
  induction l with
  | nil =>
    intro lo x _ _
    simp [mergeExtent, covers]
  | cons y ys ih =>
    intro lo x h hne
    obtain ⟨⟨_, hyne, _⟩, hys⟩ := (orderedFrom_cons ..).mp h
    unfold mergeExtent
    split
    · rw [covers_cons, or_comm]
    · split
      · rw [covers_cons, covers_cons, ih hys hne, or_assoc]
      · have hjoin : (min x.start y.start ≤ i ∧ i < max x.stop y.stop)
            ↔ (y.start ≤ i ∧ i < y.stop) ∨ (x.start ≤ i ∧ i < x.stop) := by omega
        rw [ih hys (by simp; omega), covers_cons, hjoin, or_left_comm, or_assoc]

/-! ### The account of a write -/

/-- The overrun of a write changes the overrun fields alone (R44). -/
theorem Account.addOverrun_eq (a : Account) (n : Nat) :
    a.addOverrun n = { a with
      overrun := a.overrun || decide (0 < n)
      overrunCount := if n = 0 then a.overrunCount else min (a.overrunCount + n) 4294967295 } := by
  unfold Account.addOverrun
  split
  · next h => simp [h]
  · next h => simp [Nat.pos_of_ne_zero h]

/-- Whether the rewrite test of a write voids the digest: never while SCATTERED (R46). -/
def Coverage.rewrites (c : Coverage) (x : Extent) : Bool :=
  match c with
  | .tracked l => l.any x.overlaps
  | .scattered => false

/-- The rewrite test can set the void flag, and changes nothing else (R46). -/
theorem Account.testRewrite_eq (a : Account) (x : Extent) :
    a.testRewrite x = { a with digestVoid := a.digestVoid || a.coverage.rewrites x } := by
  unfold Account.testRewrite Coverage.rewrites
  cases hcov : a.coverage with
  | scattered => simp [← hcov]
  | tracked l => cases hany : l.any x.overlaps <;> simp [hany, ← hcov]

theorem rewrites_tracked_iff (l : List Extent) (x : Extent) :
    (Coverage.tracked l).rewrites x = true ↔ ∃ y ∈ l, y.start < x.stop ∧ x.start < y.stop := by
  simp [Coverage.rewrites, Extent.overlaps, and_comm]

/-- The account of a file after a data write, field by field (R44 to R48). -/
theorem File.recordWrite_account (f : File) (o : Nat) (bytes : List Byte) (beyond : Nat) :
    (f.recordWrite o bytes beyond).account = { f.account with
      overrun := f.account.overrun || decide (0 < beyond)
      overrunCount := if beyond = 0 then f.account.overrunCount else min (f.account.overrunCount + beyond) 4294967295
      digestVoid := f.account.digestVoid || f.account.coverage.rewrites { start := o, stop := o + bytes.length }
      coverage := f.account.coverage.record { start := o, stop := o + bytes.length } } := by
  simp [File.recordWrite, Account.testRewrite_eq, Account.addOverrun_eq]

/-- The sums of a file after a data write: left alone once the digest is void (R46, R59). -/
theorem File.recordWrite_acc (f : File) (o : Nat) (bytes : List Byte) (beyond : Nat) :
    (f.recordWrite o bytes beyond).acc
      = if (f.recordWrite o bytes beyond).account.digestVoid then f.acc else f.acc.addBytes o bytes := rfl

theorem Coverage.record_tracked (l : List Extent) (x : Extent) :
    (Coverage.tracked l).record x
      = if (mergeExtent x l).length ≤ 8 then .tracked (mergeExtent x l) else .scattered := by
  simp only [Coverage.record, ← Nat.not_le, ite_not]

end Sys2Proof.Machine

namespace Sys2Proof.Safety

open Sys2Proof.Machine

/-- Settles O28: the account by its fields, and the merge by induction on the extent list. -/
theorem recordingAWrite : Obligations.RecordingAWrite := by
  unfold Obligations.RecordingAWrite
  refine ⟨fun f o bytes beyond => ?_, fun n l x hform hne hn =>
    ⟨orderedFrom_mergeExtent l hform (Nat.zero_le _) hne hn, fun i => covers_mergeExtent l i hform hne⟩⟩
  have haccount := f.recordWrite_account o bytes beyond
  have hacc := f.recordWrite_acc o bytes beyond
  refine ⟨rfl, rfl, rfl, ?_, ?_, ?_, fun hscattered => ?_, fun l htracked => ?_, fun hvoid => ?_, fun hvoid => ?_⟩
  · rw [haccount]
  · rw [haccount]
  · rw [haccount]
  · rw [haccount, hscattered]
    exact ⟨rfl, Bool.or_false _⟩
  · rw [haccount, htracked]
    exact ⟨by rw [Bool.or_eq_true, rewrites_tracked_iff], Coverage.record_tracked l _⟩
  · rw [hacc, if_pos hvoid]
  · rw [hacc, hvoid]
    rfl

end Sys2Proof.Safety
end

section
/-! SUPPORT. The actions that leave every slot's entry as it is. -/

namespace Sys2Proof.Machine

theorem foldl_slots {β : Type} (f : Ev → β → Ev) (hf : ∀ e b, (f e b).slots = e.slots) (l : List β) (e : Ev) :
    (l.foldl f e).slots = e.slots :=
  foldl_keeps (fun a b : Ev => b.slots = a.slots) (fun _ => rfl) (fun h h' => h'.trans h) f hf l e

/-! ### Frames and lanes -/

@[simp] theorem Ev.sealIfEmpty_slots (e : Ev) (n : FrameNo) : (e.sealIfEmpty n).slots = e.slots :=
  (e.sealIfEmpty_keeps n).slots

@[simp] theorem Ev.dropOpen_slots (e : Ev) (n : FrameNo) : (e.dropOpen n).slots = e.slots := by
  unfold Ev.dropOpen
  dsimp only
  split <;> rfl

@[simp] theorem Ev.toClosing_slots (e : Ev) (n : FrameNo) (reason : SealReason) :
    (e.toClosing n reason).slots = e.slots := by
  unfold Ev.toClosing
  split <;> simp

@[simp] theorem Ev.closeFrame_slots (e : Ev) (n : FrameNo) (reason : SealReason) :
    (e.closeFrame n reason).slots = e.slots := by
  simp [Ev.closeFrame]

@[simp] theorem Ev.closeLane_slots (e : Ev) (l : LaneNo) (reason : SealReason) :
    (e.closeLane l reason).slots = e.slots := by
  unfold Ev.closeLane
  split <;> simp

@[simp] theorem Ev.freeFrame_slots (e : Ev) (n : FrameNo) : (e.freeFrame n).slots = e.slots := rfl

@[simp] theorem Ev.returnReserved_slots (e : Ev) (l : LaneNo) : (e.returnReserved l).slots = e.slots := by
  unfold Ev.returnReserved
  split <;> simp

@[simp] theorem Ev.surrender_slots (e : Ev) : e.surrender.slots = e.slots := by
  rw [Ev.surrender, foldl_slots _ Ev.returnReserved_slots]

@[simp] theorem Ev.cancelWrites_slots (e : Ev) (n : FrameNo) : (e.cancelWrites n).slots = e.slots := rfl

@[simp] theorem Ev.openPack_slots (e : Ev) (n : FrameNo) (l : LaneNo) : (e.openPack n l).slots = e.slots := by
  unfold Ev.openPack
  dsimp only
  split <;> rfl

@[simp] theorem Ev.touchEntry_slots (e : Ev) (t : Tag) : (e.touchEntry t).slots = e.slots := by
  rw [Ev.touchEntry_eq, Ev.setEntries_slots]

@[simp] theorem Ev.touchLane_slots (e : Ev) (l : LaneNo) : (e.touchLane l).slots = e.slots := by
  rw [Ev.touchLane_eq, Ev.setLane_slots]

@[simp] theorem Ev.testTarget_slots (e : Ev) (n : FrameNo) : (e.testTarget n).slots = e.slots := by
  simp only [Ev.testTarget]
  split
  · simp
  · split <;> simp

@[simp] theorem Ev.holdReport_slots (e : Ev) (k : SlotNo) : (e.holdReport k).slots = e.slots := rfl

@[simp] theorem Ev.leaveWait_slots (e : Ev) (k : SlotNo) : (e.leaveWait k).slots = e.slots := rfl

@[simp] theorem Ev.closeLanes_slots (e : Ev) (ls : List LaneNo) (reason : SealReason) :
    (e.closeLanes ls reason).slots = e.slots := by
  unfold Ev.closeLanes
  rw [foldl_slots _ Ev.sealIfEmpty_slots, foldl_slots _ (fun e n => e.toClosing_slots n reason)]

@[simp] theorem Ev.flagFault_slots (e : Ev) (n : FrameNo) : (e.flagFault n).slots = e.slots := by
  unfold Ev.flagFault
  split <;> simp

@[simp] theorem Ev.holdFaulted_slots (e : Ev) (n : FrameNo) : (e.holdFaulted n).slots = e.slots := by
  simp [Ev.holdFaulted]

@[simp] theorem Ev.sealDone_slots (e : Ev) (n : FrameNo) : (e.sealDone n).slots = e.slots := by
  unfold Ev.sealDone
  split
  · split <;> simp
  · rfl

@[simp] theorem Ev.postFault_slots (e : Ev) (w : FaultedWrite) (addr : Nat) : (e.postFault w addr).slots = e.slots := by
  simp [Ev.postFault]

@[simp] theorem Ev.sealFault_slots (e : Ev) (n : FrameNo) (serial addr : Nat) :
    (e.sealFault n serial addr).slots = e.slots := by
  unfold Ev.sealFault
  dsimp only
  split <;> simp

/-! ### Collections -/

@[simp] theorem Ev.bindEntry_slots (e : Ev) (t : Tag) (l : Option LaneNo) : (e.bindEntry t l).slots = e.slots := rfl

@[simp] theorem Ev.bindLane_slots (e : Ev) (l : LaneNo) (t : Tag) (c : ClassNo) : (e.bindLane l t c).slots = e.slots := rfl

@[simp] theorem Ev.cacheResult_slots (e : Ev) (t : Tag) (c : ClassNo) (listed : Bool) :
    (e.cacheResult t c listed).slots = e.slots := by
  unfold Ev.cacheResult
  dsimp only
  split
  · rfl
  · split <;> rfl

@[simp] theorem Ev.unclaim_slots (e : Ev) (k : SlotNo) : (e.unclaim k).slots = e.slots := by
  unfold Ev.unclaim
  split
  · split <;> rfl
  · rfl

@[simp] theorem Ev.pinEntry_slots (e : Ev) (t : Tag) (c : ClassNo) (lane : Option LaneNo) :
    (e.pinEntry t c lane).slots = e.slots := rfl

@[simp] theorem Ev.postEvicted_slots (e : Ev) (x : CollEntry) : (e.postEvicted x).slots = e.slots := by
  unfold Ev.postEvicted
  split <;> simp

@[simp] theorem Ev.resetLanes_slots (e : Ev) : e.resetLanes.slots = e.slots := by
  unfold Ev.resetLanes
  simp only
  rw [foldl_slots _ Ev.returnReserved_slots, Ev.closeLanes_slots]

/-! ### Commands, confirms and the consumer index -/

@[simp] theorem Ev.rewriteDescription_slots (e : Ev) : e.rewriteDescription.slots = e.slots := rfl

@[simp] theorem Ev.doSetClass_slots (e : Ev) (d : List Byte) : (e.doSetClass d).1.slots = e.slots := by
  unfold Ev.doSetClass
  split <;> simp

@[simp] theorem Ev.doSetPattern_slots (e : Ev) (d : List Byte) : (e.doSetPattern d).1.slots = e.slots := rfl

@[simp] theorem Ev.doSetTable_slots (e : Ev) (d : List Byte) : (e.doSetTable d).1.slots = e.slots := rfl

@[simp] theorem Ev.doSetSerial_slots (e : Ev) (d : List Byte) : (e.doSetSerial d).1.slots = e.slots := by
  unfold Ev.doSetSerial
  dsimp only
  split <;> rfl

@[simp] theorem Ev.doSetTime_slots (e : Ev) (d : List Byte) : (e.doSetTime d).1.slots = e.slots := rfl

@[simp] theorem Ev.doSetAttention_slots (e : Ev) (d : List Byte) : (e.doSetAttention d).1.slots = e.slots := rfl

@[simp] theorem Ev.doFreeze_slots (e : Ev) : e.doFreeze.1.slots = e.slots := by
  unfold Ev.doFreeze
  split <;> rfl

@[simp] theorem Ev.doResume_slots (e : Ev) (d : List Byte) : (e.doResume d).1.slots = e.slots := by
  unfold Ev.doResume
  split
  · rfl
  · split <;> rfl

@[simp] theorem Ev.mismatched_slots (e : Ev) (n : FrameNo) (c : ConfirmCell) : (e.mismatched n c).slots = e.slots := by
  unfold Ev.mismatched
  dsimp only
  split <;> simp

@[simp] theorem Ev.actConsumer_slots (e : Ev) (d : List Byte) : (e.actConsumer d).slots = e.slots := by
  unfold Ev.actConsumer
  dsimp only
  split <;> rfl

@[simp] theorem Ev.countStray_slots (e : Ev) (r : Requester) (addr : UpAddr) : (e.countStray r addr).slots = e.slots := by
  obtain ⟨notes, posted, hform⟩ := e.countStray_form r addr
  rw [hform]

/-! ### The store port, the profile and the tick -/

@[simp] theorem Ev.sendRead_slots (e : Ev) (r : Requester) : (e.sendRead r).slots = e.slots := by
  unfold Ev.sendRead
  split
  · split <;> rfl
  · rfl

@[simp] theorem Ev.sendNext_slots (e : Ev) : e.sendNext.slots = e.slots := by
  unfold Ev.sendNext
  split
  · rfl
  · dsimp only
    split
    · rw [Ev.sendRead_slots]
      split
      · split <;> simp
      · rfl
    · split
      · split <;> simp
      · rfl

@[simp] theorem Ev.enterPassive_slots (e : Ev) (f : ProfileFailure) (check digest : Nat) :
    (e.enterPassive f check digest).slots = e.slots := rfl

@[simp] theorem Ev.enterActive_slots (e : Ev) (p : Profile) : (e.enterActive p).slots = e.slots := by
  simp [Ev.enterActive, Ev.takeProfile]

@[simp] theorem Ev.judgeProfile_slots (e : Ev) (d : List Byte) : (e.judgeProfile d).slots = e.slots := by
  simp only [Ev.judgeProfile]
  split
  · simp
  · split <;> simp

@[simp] theorem Ev.readTimeout_slots (e : Ev) : e.readTimeout.slots = e.slots := by
  unfold Ev.readTimeout
  split <;> rfl

@[simp] theorem Ev.countTick_slots (e : Ev) : e.countTick.slots = e.slots := rfl

@[simp] theorem Ev.expireQuiet_slots (e : Ev) (n : FrameNo) : (e.expireQuiet n).slots = e.slots := by
  unfold Ev.expireQuiet
  split <;> simp

@[simp] theorem Ev.expireAge_slots (e : Ev) (n : FrameNo) : (e.expireAge n).slots = e.slots := by
  unfold Ev.expireAge
  split <;> simp

end Sys2Proof.Machine
end

section
/-! SUPPORT. A property of every file of the part through every action: where a file comes into a slot or changes there, and
that everything else only moves files between the states of a slot, or ends them. -/

namespace Sys2Proof.Machine

open Sys2Proof.Safety

/-- Every file of the slot table has property `P`. -/
def FilesHold (P : File → Prop) (t : SlotEngine) : Prop := ∀ (k : SlotNo) (f : File), (t.table.get k).file? = some f → P f

/-- The four ways a file of a slot comes to be or changes: an OPEN (R23), a write wholly beyond its length (R44), a write
with in-file bytes (R45), and the mark of a fault (R54). -/
structure FileRule (P : File → Prop) : Prop where
  opened : ∀ (r : Requester) (d : List Byte), P (newFile r d)
  overrun : ∀ (f : File) (n : Nat), P f → P { f with account := f.account.addOverrun n }
  recorded : ∀ (f : File) (o : Nat) (bytes : List Byte) (beyond : Nat), P f → bytes ≠ [] →
    o + bytes.length ≤ f.intent.length → P (f.recordWrite o bytes beyond)
  faulted : ∀ f : File, P f → P { f with account := { f.account with storeFault := true } }

section

variable {P : File → Prop} {e : Ev}

theorem FilesHold.of_slot {k : SlotNo} {f : File} (h : FilesHold P e.slots) (hfile : (e.slot k).file? = some f) : P f :=
  h k f hfile

theorem FilesHold.of_lookup {k : SlotNo} {f : File} (h : FilesHold P e.slots) (hslot : e.slot k = .lookup f) : P f :=
  h.of_slot (congrArg SlotEntry.file? hslot)

theorem FilesHold.of_waiting {k : SlotNo} {f : File} {c : ClassNo} {l : LaneNo} (h : FilesHold P e.slots)
    (hslot : e.slot k = .waiting f c l) : P f :=
  h.of_slot (congrArg SlotEntry.file? hslot)

theorem FilesHold.of_filling {k : SlotNo} {f : File} {c : ClassNo} {l : LaneNo} {p : Placement} (h : FilesHold P e.slots)
    (hslot : e.slot k = .filling f c l p) : P f :=
  h.of_slot (congrArg SlotEntry.file? hslot)

/-- A slot's entry replaced by one whose file, if any, has the property. -/
theorem FilesHold.setSlot (h : FilesHold P e.slots) (k : SlotNo) {x : SlotEntry} (hx : ∀ f, x.file? = some f → P f) :
    FilesHold P (e.setSlot k x).slots := by
  intro j f hfile
  rw [Ev.setSlot_slots, get_put] at hfile
  split at hfile
  · exact hx f hfile
  · exact h j f hfile

theorem FilesHold.setIdle (h : FilesHold P e.slots) (k : SlotNo) : FilesHold P (e.setSlot k .idle).slots :=
  h.setSlot k (fun _ hfile => nomatch hfile)

theorem FilesHold.setFile (h : FilesHold P e.slots) (k : SlotNo) {x : SlotEntry} {f : File} (hx : x.file? = some f)
    (hf : P f) : FilesHold P (e.setSlot k x).slots :=
  h.setSlot k (fun g hfile => by
    rw [hx] at hfile
    cases hfile
    exact hf)

theorem FilesHold.foldl {β : Type} {f : Ev → β → Ev} (hf : ∀ e b, FilesHold P e.slots → FilesHold P (f e b).slots)
    (l : List β) (h : FilesHold P e.slots) : FilesHold P (l.foldl f e).slots :=
  foldl_keeps (fun a b : Ev => FilesHold P a.slots → FilesHold P b.slots) (fun _ h => h) (fun h h' => h' ∘ h) f hf l e h

/-! ### Placing and waiting -/

theorem FilesHold.place (h : FilesHold P e.slots) {f : File} (hf : P f) (k : SlotNo) (c : ClassNo) (l : LaneNo)
    (n : FrameNo) : FilesHold P (e.place k f c l n).slots := by
  simp only [Ev.place, Ev.testTarget_slots, Ev.touchEntry_slots, Ev.touchLane_slots]
  exact FilesHold.setFile (by simpa using h) k rfl hf

/-- A grant moves waiting files into packs (R105). -/
theorem FilesHold.walk (g : FrameNo) (l : LaneNo) (ks : List SlotNo) :
    ∀ {w : Walk}, FilesHold P w.ev.slots → FilesHold P (Walk.run g l ks w).ev.slots := by
  induction ks with
  | nil => exact fun h => h
  | cons k ks ih =>
    intro w h
    unfold Walk.run
    split
    · next f c m hslot =>
      have hf : P f := h.of_waiting hslot
      have hplaced : ∀ n, FilesHold P ((w.ev.leaveWait k).place k f c l n).slots :=
        FilesHold.place (e := w.ev.leaveWait k) h hf k c l
      have hopened : ∀ e : Ev, e.slots = w.ev.slots →
          FilesHold P (((e.openPack g l).leaveWait k).place k f c l g).slots := fun e he =>
        FilesHold.place (by simpa [he] using h) hf k c l g
      split
      · split
        · exact ih (hplaced _)
        · split
          · exact h
          · exact ih (hopened _ (Ev.closeFrame_slots ..))
      · split
        · exact h
        · exact ih (hopened _ rfl)
    · exact ih h

theorem FilesHold.grantOne (h : FilesHold P e.slots) (g : FrameNo) : FilesHold P (e.grantOne g).1.slots := by
  unfold Ev.grantOne
  split
  · exact h
  · split
    · simp only [foldl_slots _ Ev.holdReport_slots]
      exact FilesHold.walk g _ _ h
    · exact h

theorem FilesHold.grants (n : Nat) : ∀ {e : Ev}, FilesHold P e.slots → FilesHold P (e.grants n).slots := by
  induction n with
  | zero => exact fun h => h
  | succ n ih =>
    intro e h
    unfold Ev.grants
    split
    · exact h
    · exact h
    · next g _ _ =>
      have hone := h.grantOne g
      split
      · next hgrant => rwa [hgrant] at hone
      · next hgrant => rw [hgrant] at hone; exact ih hone

theorem FilesHold.grantAll (h : FilesHold P e.slots) : FilesHold P e.grantAll.slots := h.grants _

theorem FilesHold.joinWait (h : FilesHold P e.slots) {f : File} (hf : P f) (k : SlotNo) (c : ClassNo) (l : LaneNo) :
    FilesHold P (e.joinWait k f c l).slots := by
  have hset : FilesHold P ((e.setSlot k (.waiting f c l)).setWaitQ (e.frames.waitQ ++ [k])).slots := h.setFile k rfl hf
  unfold Ev.joinWait
  refine FilesHold.grantAll ?_
  split
  · rw [Ev.surrender_slots]; exact hset
  · exact hset

theorem FilesHold.openOrWait (h : FilesHold P e.slots) {f : File} (hf : P f) (k : SlotNo) (c : ClassNo) (l : LaneNo) :
    FilesHold P (e.openOrWait k f c l).slots := by
  unfold Ev.openOrWait
  split
  · exact FilesHold.place (by simpa using h) hf k c l _
  · exact h.joinWait hf k c l

theorem FilesHold.route (h : FilesHold P e.slots) {f : File} (hf : P f) (k : SlotNo) (c : ClassNo) (l : LaneNo) :
    FilesHold P (e.route k f c l).slots := by
  unfold Ev.route
  split
  · exact h.joinWait hf k c l
  · split
    · split
      · exact h.place hf k c l _
      · exact FilesHold.openOrWait (by simpa using h) hf k c l
    · exact h.openOrWait hf k c l

/-! ### Lanes -/

theorem FilesHold.moveWaiters (h : FilesHold P e.slots) (l : LaneNo) : FilesHold P (e.moveWaiters l).slots := by
  refine FilesHold.foldl (fun e k h => ?_) _ h
  split
  · next hslot =>
    split
    · exact h.setFile k rfl (h.of_waiting hslot)
    · exact h
  · exact h

theorem FilesHold.evictLane (h : FilesHold P e.slots) (v : LaneNo) (t : Tag) (c : ClassNo) :
    FilesHold P (e.evictLane v t c).slots := by
  simp only [Ev.evictLane, Ev.bindLane_slots, Ev.post_slots]
  exact FilesHold.moveWaiters (by simpa using h) v

theorem FilesHold.chooseLane (h : FilesHold P e.slots) (t : Tag) (c : ClassNo) :
    FilesHold P (e.chooseLane t c).1.slots := by
  unfold Ev.chooseLane
  split
  · exact h
  · split
    · exact h
    · split
      · exact h
      · split
        · simpa using h
        · split
          · exact h.evictLane _ t c
          · exact h

theorem FilesHold.routeClass (h : FilesHold P e.slots) {f : File} (hf : P f) (k : SlotNo) (c : ClassNo) :
    FilesHold P (e.routeClass k f c).slots :=
  (h.chooseLane f.intent.tag c).route hf k c _

theorem FilesHold.unbindLane (h : FilesHold P e.slots) (l : LaneNo) (reason : SealReason) :
    FilesHold P (e.unbindLane l reason).slots := by
  simp only [Ev.unbindLane, Ev.bindEntry_slots, Ev.setLane_slots]
  exact FilesHold.moveWaiters (by simpa using h) l

theorem FilesHold.unbindEntry (h : FilesHold P e.slots) (x : CollEntry) (reason : SealReason) :
    FilesHold P (e.unbindEntry x reason).slots := by
  unfold Ev.unbindEntry
  split
  · exact h.unbindLane _ reason
  · exact h

/-! ### Lookups -/

theorem FilesHold.deliver (h : FilesHold P e.slots) (k : SlotNo) (c : ClassNo) : FilesHold P (e.deliver k c).slots := by
  unfold Ev.deliver
  split
  · next f hslot =>
    have hrouted : FilesHold P ((e.setLookupQ (e.coll.lookupQ.filter (fun j => j != k))).routeClass k f c).slots :=
      FilesHold.routeClass (by simpa using h) (h.of_lookup hslot) k c
    dsimp only
    split
    · exact hrouted
    · exact hrouted
  · exact h

theorem FilesHold.endSearch (h : FilesHold P e.slots) (q : Search) (c : ClassNo) : FilesHold P (e.endSearch q c).slots := by
  unfold Ev.endSearch
  dsimp only
  split
  · exact FilesHold.deliver (by simpa using h) q.slot c
  · exact h

theorem FilesHold.searchFound (h : FilesHold P e.slots) (q : Search) (c : ClassNo) (listed : Bool) :
    FilesHold P (e.searchFound q c listed).slots := by
  unfold Ev.searchFound
  refine FilesHold.endSearch ?_ q _
  split
  · simpa using h
  · exact h

theorem FilesHold.lookupFault (h : FilesHold P e.slots) (q : Search) (addr : Nat) :
    FilesHold P (e.lookupFault q addr).slots :=
  FilesHold.endSearch (by simpa using h) q _

theorem FilesHold.probe (h : FilesHold P e.slots) (q : Search) : FilesHold P (e.probe q).slots := by
  unfold Ev.probe
  split
  · exact h
  · exact h.lookupFault q _

theorem FilesHold.serve (n : Nat) : ∀ {e : Ev}, FilesHold P e.slots → FilesHold P (e.serve n).slots := by
  induction n with
  | zero => exact fun h => h
  | succ n ih =>
    intro e h
    unfold Ev.serve
    split
    · exact h
    · exact h
    · next k _ _ _ =>
      split
      · split
        · exact ih (h.deliver k _)
        · split
          · exact ih (FilesHold.deliver (by simpa using h) k 0)
          · exact ih (h.probe _)
      · exact h

theorem FilesHold.serveAll (h : FilesHold P e.slots) : FilesHold P e.serveAll.slots := FilesHold.serve _ h

theorem FilesHold.searchStep (h : FilesHold P e.slots) (q : Search) (a : ProbeAnswer) :
    FilesHold P (e.searchStep q a).slots := by
  unfold Ev.searchStep
  split
  · exact h.lookupFault q _
  · dsimp only
    split
    · exact h.searchFound q _ true
    · split
      · split
        · exact h.probe _
        · exact h.searchFound q 0 false
      · split
        · exact h.probe _
        · exact h.searchFound q 0 false

/-! ### The end of a file -/

theorem FilesHold.endFile (h : FilesHold P e.slots) (k : SlotNo) (f : File) (p : Placement) (reason : EndReason) :
    FilesHold P (e.endFile k f p reason).1.slots :=
  FilesHold.setIdle (e := e.setFrame p.frame _) h k

theorem FilesHold.endFileHeld (h : FilesHold P e.slots) (k : SlotNo) (reason : EndReason) :
    FilesHold P (e.endFileHeld k reason).slots := by
  unfold Ev.endFileHeld
  split
  · next f _ _ p _ =>
    dsimp only
    rw [Ev.sealIfEmpty_slots]
    exact h.endFile k f p reason
  · exact h

theorem FilesHold.endQueued (h : FilesHold P e.slots) (k : SlotNo) : FilesHold P (e.endQueued k).slots := by
  unfold Ev.endQueued
  split
  · exact FilesHold.setIdle (by simpa using h) k
  · exact FilesHold.setIdle (by simpa using h) k
  · exact h

theorem FilesHold.takeEnd (h : FilesHold P e.slots) (k : SlotNo) (req : Byte) (reason : EndReason) :
    FilesHold P (e.takeEnd k req reason).1.slots := by
  unfold Ev.takeEnd
  split
  · next f _ _ p _ =>
    dsimp only
    rw [Ev.sealIfEmpty_slots]
    exact h.endFile k (f.took req) p reason
  · exact h.endQueued k

theorem FilesHold.actEnd (h : FilesHold P e.slots) (k : SlotNo) (r : Requester) (d : List Byte) (reason : EndReason) :
    FilesHold P (e.actEnd k r d reason).1.slots := by
  unfold Ev.actEnd
  split
  · exact h
  · split
    · exact h.takeEnd k _ reason
    · exact h

theorem FilesHold.resetSlot (h : FilesHold P e.slots) (k : SlotNo) : FilesHold P (e.resetSlot k).slots := by
  unfold Ev.resetSlot
  split
  · exact h.endFileHeld k .reset
  · unfold Ev.resetQueued
    split
    · exact h.setIdle k
    · exact h

theorem FilesHold.resetSlots (h : FilesHold P e.slots) : FilesHold P e.resetSlots.slots := by
  rw [Ev.resetSlots, Ev.setWaitQ_slots, Ev.setLookupQ_slots]
  exact h.foldl (fun _ k h => h.resetSlot k) _

theorem FilesHold.forceEnd (h : FilesHold P e.slots) (n : FrameNo) (k : SlotNo) :
    FilesHold P (Ev.forceEnd n e k).slots := by
  unfold Ev.forceEnd
  split
  · split
    · exact h.endFileHeld k .forced
    · exact h
  · exact h

theorem FilesHold.expireStraggler (h : FilesHold P e.slots) (n : FrameNo) : FilesHold P (e.expireStraggler n).slots := by
  unfold Ev.expireStraggler
  split
  · rw [Ev.sealIfEmpty_slots]
    exact FilesHold.foldl (fun _ k h => h.forceEnd n k) _ (by simpa using h)
  · exact h

theorem FilesHold.testFrame (h : FilesHold P e.slots) (n : FrameNo) : FilesHold P (e.testFrame n).slots := by
  unfold Ev.testFrame
  split
  · split
    · simpa using h
    · simpa using h
  · exact h.expireStraggler n
  · exact h

theorem FilesHold.testTimers (h : FilesHold P e.slots) : FilesHold P e.testTimers.slots := by
  unfold Ev.testTimers
  split
  · exact FilesHold.foldl (e := { e with inOrder := true }) (fun _ n h => h.testFrame n) _ h
  · exact h

/-! ### Commands and confirms -/

theorem FilesHold.grantFreed (h : FilesHold P e.slots) : FilesHold P e.grantFreed.slots := by
  unfold Ev.grantFreed
  split
  · exact h.grantAll
  · exact h

theorem FilesHold.registerPresent (h : FilesHold P e.slots) (t : Tag) (c : ClassNo) (x : CollEntry) :
    FilesHold P (e.registerPresent t c x).slots := by
  unfold Ev.registerPresent
  split
  · exact h
  · exact h.unbindEntry x .reclass

theorem FilesHold.registerAbsent (h : FilesHold P e.slots) (t : Tag) (c : ClassNo) :
    FilesHold P (e.registerAbsent t c).1.slots := by
  unfold Ev.registerAbsent
  split
  · exact h
  · split
    · next x _ =>
      simp only [Ev.pinEntry_slots, Ev.setEntries_slots, Ev.postEvicted_slots]
      exact h.unbindEntry x .evicted
    · exact h

theorem FilesHold.doRegister (h : FilesHold P e.slots) (d : List Byte) : FilesHold P (e.doRegister d).1.slots := by
  unfold Ev.doRegister
  dsimp only
  split
  · exact h
  · split
    · exact (h.registerPresent _ _ _).grantFreed
    · exact (h.registerAbsent _ _).grantFreed

theorem FilesHold.doUnregister (h : FilesHold P e.slots) (d : List Byte) : FilesHold P (e.doUnregister d).1.slots := by
  unfold Ev.doUnregister
  dsimp only
  split
  · exact h
  · next x _ => exact FilesHold.grantFreed (h.unbindEntry x .reclass)

theorem FilesHold.doDrain (h : FilesHold P e.slots) (d : List Byte) : FilesHold P (e.doDrain d).1.slots := by
  unfold Ev.doDrain
  split
  · exact h
  · refine FilesHold.grantFreed ?_
    rw [foldl_slots _ Ev.returnReserved_slots, Ev.closeLanes_slots]
    exact h

theorem FilesHold.release (h : FilesHold P e.slots) (n : FrameNo) (discarded : Bool) :
    FilesHold P (e.release n discarded).slots :=
  FilesHold.grantAll (by simpa using h)

theorem FilesHold.doDiscard (h : FilesHold P e.slots) (d : List Byte) : FilesHold P (e.doDiscard d).1.slots := by
  unfold Ev.doDiscard
  split
  · exact h
  · split
    · exact h.release _ true
    · exact h

theorem FilesHold.judgeCommand (h : FilesHold P e.slots) (code : Nat) (d : List Byte) :
    FilesHold P (e.judgeCommand code d).1.slots := by
  unfold Ev.judgeCommand
  split
  · exact h
  · split
    · exact h.doRegister d
    · exact h.doUnregister d
    · simpa using h
    · simpa using h
    · simpa using h
    · simpa using h
    · simpa using h
    · simpa using h
    · exact h.doDrain d
    · simpa using h
    · simpa using h
    · exact h.doDiscard d
    · exact h

theorem FilesHold.actCommand (h : FilesHold P e.slots) (c : CellNo) (d : List Byte) :
    FilesHold P (e.actCommand c d).1.slots := by
  unfold Ev.actCommand
  split
  · exact h
  · exact h.judgeCommand _ d

theorem FilesHold.confirmed (h : FilesHold P e.slots) (n : FrameNo) (pool : Nat) :
    FilesHold P (e.confirmed n pool).slots := by
  unfold Ev.confirmed
  dsimp only
  split
  · exact FilesHold.release (by simpa using h) n false
  · exact h

theorem FilesHold.actConfirm (h : FilesHold P e.slots) (k : CellNo) (d : List Byte) :
    FilesHold P (e.actConfirm k d).1.slots := by
  unfold Ev.actConfirm
  dsimp only
  split
  · exact h
  · split
    · exact h
    · split
      · split
        · exact h.confirmed _ _
        · exact h.confirmed _ _
      · simpa using h
      · exact h

/-! ### Where a file comes to be or changes -/

theorem FilesHold.decideRoute (h : FilesHold P e.slots) {f : File} (hf : P f) (k : SlotNo) :
    FilesHold P (e.decideRoute k f).slots := by
  unfold Ev.decideRoute
  split
  · exact h.routeClass hf k _
  · split
    · exact h.routeClass hf k _
    · split
      · exact FilesHold.routeClass (by simpa using h) hf k 0
      · exact FilesHold.serveAll (h.setFile k (x := .lookup f) rfl hf)

/-- An OPEN brings a new file into its slot (R23). -/
theorem FilesHold.actOpen (rule : FileRule P) (h : FilesHold P e.slots) (k : SlotNo) (r : Requester) (d : List Byte) :
    FilesHold P (e.actOpen k r d).1.slots := by
  unfold Ev.actOpen
  split
  · unfold Ev.openIdle
    dsimp only
    split
    · exact h
    · split
      · exact h
      · exact h.decideRoute (rule.opened r d) k
  · exact h

theorem FilesHold.actRecord (rule : FileRule P) (h : FilesHold P e.slots) (k : SlotNo) (r : Requester) (addr : UpAddr)
    (whole : Bool) (d : List Byte) : FilesHold P (e.actRecord k r addr whole d).1.slots := by
  unfold Ev.actRecord
  split
  · exact h
  · split
    · exact h.actOpen rule k r d
    · split
      · exact h.actEnd k r d .closed
      · split
        · exact h.actEnd k r d .abandoned
        · simpa using h

/-- The event that a verdict brings about, if any, leaves every file with the property. -/
def Verdict.FilesHold (P : File → Prop) : Verdict → Prop
  | .retry => True
  | .drop e => Machine.FilesHold P e.slots
  | .take e _ _ _ _ => Machine.FilesHold P e.slots

/-- A data write changes the account and the sums of its file, by bytes that lie within it (R43, R45). -/
theorem FilesHold.dataWrite (rule : FileRule P) (h : FilesHold P e.slots) {f : File} (hf : P f) (k : SlotNo) (c : ClassNo)
    (l : LaneNo) (p : Placement) (o : Nat) (d : List Byte) : (e.dataWrite k f c l p o d).FilesHold P := by
  have hclamp := clamp_eq f.intent.length o d.length
  unfold Ev.dataWrite
  dsimp only
  split
  · exact h.setFile k rfl (rule.overrun f d.length hf)
  · next hsome =>
    have hlength : (d.take (clamp f.intent.length o d.length)).length = clamp f.intent.length o d.length := by
      rw [List.length_take]; omega
    have hbytes : d.take (clamp f.intent.length o d.length) ≠ [] := by
      rw [← List.length_pos_iff, hlength]; omega
    have hrecord : P (f.recordWrite o (d.take (clamp f.intent.length o d.length))
        (d.length - clamp f.intent.length o d.length)) :=
      rule.recorded f o _ _ hf hbytes (by rw [hlength]; omega)
    split
    · show Machine.FilesHold P (Ev.sealIfEmpty _ _).slots
      rw [Ev.sealIfEmpty_slots]
      exact h.endFile k _ p .covered
    · exact h.setFile k rfl hrecord

theorem FilesHold.slotWrite (rule : FileRule P) (h : FilesHold P e.slots) (k : SlotNo) (o : Nat) (r : Requester)
    (addr : UpAddr) (d : List Byte) : (e.slotWrite k o r addr d).FilesHold P := by
  have hstray : (Verdict.drop (e.countStray r addr)).FilesHold P := by
    show Machine.FilesHold P _
    rwa [Ev.countStray_slots]
  unfold Ev.slotWrite
  split
  · exact hstray
  · split
    · trivial
    · exact hstray
  · split
    · trivial
    · exact hstray
  · next f c l p hslot =>
    split
    · exact h.dataWrite rule (h.of_filling hslot) k c l p o d
    · exact hstray

/-- FAULT to a slot data write marks the account of its file, if the slot still holds it (R54). -/
theorem FilesHold.markFileFault (rule : FileRule P) (h : FilesHold P e.slots) (k : SlotNo) (n : FrameNo) (entry : Nat) :
    FilesHold P (e.markFileFault k n entry).slots := by
  unfold Ev.markFileFault
  split
  · next f _ _ _ hslot =>
    split
    · exact h.setFile k rfl (rule.faulted f (h.of_filling hslot))
    · exact h
  · exact h

theorem FilesHold.dataFault (rule : FileRule P) (h : FilesHold P e.slots) (r : Requester) (k : SlotNo) (n : FrameNo)
    (entry addr len : Nat) : FilesHold P (e.dataFault r k n entry addr len).slots := by
  rw [Ev.dataFault, Ev.postFault_slots, Ev.flagFault_slots]
  exact h.markFileFault rule k n entry

theorem FilesHold.upstreamFault (rule : FileRule P) (h : FilesHold P e.slots) (r : Requester) (origin : UpOrigin)
    (x : Entry) : FilesHold P (e.upstreamFault r origin x).slots := by
  unfold Ev.upstreamFault
  split
  · exact h.dataFault rule r _ _ _ _ _
  · exact h
  · simpa using h
  · simpa using h
  · simpa using h
  · simpa using h

/-! ### A write on the ingest link -/

theorem FilesHold.controlWrite (rule : FileRule P) (h : FilesHold P e.slots) (off : Nat) (r : Requester) (addr : UpAddr)
    (d : List Byte) : (e.controlWrite off r addr d).FilesHold P := by
  simp only [Ev.controlWrite, Verdict.FilesHold]
  split
  · exact h.actCommand _ d
  · exact h.actConfirm _ d
  · simpa using h
  · exact h.actRecord rule _ r addr _ d
  · simpa using h
  · exact h

theorem FilesHold.packWrite (h : FilesHold P e.slots) (off : Nat) (r : Requester) (addr : UpAddr) (d : List Byte) :
    (e.packWrite off r addr d).FilesHold P := by
  unfold Ev.packWrite
  split
  · simpa [Verdict.FilesHold] using h
  · split <;> simpa [Verdict.FilesHold] using h

theorem FilesHold.unclaimedWrite (h : FilesHold P e.slots) (r : Requester) (addr : UpAddr) (d : List Byte) :
    (e.unclaimedWrite r addr d).FilesHold P := by
  unfold Ev.unclaimedWrite
  split
  · split
    · simpa [Verdict.FilesHold] using h
    · split <;> simpa [Verdict.FilesHold] using h
  · simpa [Verdict.FilesHold] using h

theorem FilesHold.activeWrite (rule : FileRule P) (h : FilesHold P e.slots) (r : Requester) (addr : UpAddr)
    (d : List Byte) : (e.activeWrite r addr d).FilesHold P := by
  unfold Ev.activeWrite
  split
  · simpa [Verdict.FilesHold] using h
  · split
    · exact h.controlWrite rule _ r addr d
    · exact h.slotWrite rule _ _ r addr d
    · exact h.packWrite _ r addr d
    · split <;> simpa [Verdict.FilesHold] using h
    · exact h.unclaimedWrite r addr d

theorem FilesHold.judgeWrite (rule : FileRule P) (h : FilesHold P e.slots) (r : Requester) (addr : UpAddr)
    (d : List Byte) : (e.judgeWrite r addr d).FilesHold P := by
  unfold Ev.judgeWrite
  split
  · trivial
  · split
    · trivial
    · exact h.activeWrite rule r addr d
  · split
    · trivial
    · unfold Ev.passiveWrite
      split
      · exact h
      · exact h

theorem FilesHold.finish (h : FilesHold P e.slots) : FilesHold P e.finish.slots := by
  rwa [Ev.finish_slots]

end

section

variable {P : File → Prop} {s : State}

theorem FilesHold.settleWrite (h : FilesHold P s.slots) (r : Requester) (addr : UpAddr) {v : Verdict}
    (hv : v.FilesHold P) : FilesHold P (s.settleWrite r addr v).slots := by
  unfold State.settleWrite
  split
  · exact h
  · exact FilesHold.finish hv
  · split
    · exact FilesHold.finish hv
    · exact h

theorem FilesHold.takeWrite (rule : FileRule P) (h : FilesHold P s.slots) (r : Requester) (addr : UpAddr)
    (d : List Byte) : FilesHold P (s.takeWrite r addr d).slots := by
  unfold State.takeWrite
  split
  · exact h
  · exact h.settleWrite r addr (FilesHold.judgeWrite (e := Ev.start s.clearOut) rule h r addr d)

theorem FilesHold.takeRead (h : FilesHold P s.slots) (r : Requester) (addr : UpAddr) (n : Nat) :
    FilesHold P (s.takeRead r addr n).slots := by
  unfold State.takeRead
  split
  · exact h
  · split
    · exact h
    · exact h
    · exact h
    · refine FilesHold.finish ?_
      rw [Ev.sendRead_slots]
      exact h

/-! ### Commands by their outcome -/

/-- Every file of the next state, if there is one, has property `P`. -/
def OutcomeFiles (P : File → Prop) : Host.Outcome State Fault Refusal → Prop
  | .next t => FilesHold P t.slots
  | .fault _ => True
  | .refused _ => True

theorem FilesHold.run (h : FilesHold P s.slots) {f : Ev → Ev}
    (hf : ∀ e, FilesHold P e.slots → FilesHold P (f e).slots) : OutcomeFiles P (s.run f) :=
  FilesHold.finish (hf (Ev.start s.clearOut) h)

theorem FilesHold.ignore (h : FilesHold P s.slots) : OutcomeFiles P s.ignore := h

/-- A command with an effect in some states alone (log 23). -/
theorem FilesHold.runIf (h : FilesHold P s.slots) (c : Prop) [Decidable c] {f : Ev → Ev}
    (hf : ∀ e, FilesHold P e.slots → FilesHold P (f e).slots) : OutcomeFiles P (if c then s.run f else s.ignore) := by
  split
  · exact h.run hf
  · exact h.ignore

theorem FilesHold.answerWrite (h : FilesHold P s.slots) {f : Entry → Ev → Option Ev}
    (hf : ∀ x e e', FilesHold P e.slots → f x e = some e' → FilesHold P e'.slots) : OutcomeFiles P (s.answerWrite f) := by
  unfold State.answerWrite
  split
  · trivial
  · dsimp only
    split
    · next hanswer => exact FilesHold.finish (hf _ _ _ (by simpa using h) hanswer)
    · trivial

/-- The answer to a write that no slot's entry depends on. -/
theorem FilesHold.answerWrite_slots (h : FilesHold P s.slots) {f : Entry → Ev → Option Ev}
    (hf : ∀ x e e', f x e = some e' → e'.slots = e.slots) : OutcomeFiles P (s.answerWrite f) :=
  h.answerWrite (fun x e e' he hanswer => by rwa [hf x e e' hanswer])

theorem FilesHold.ownWriteDone (h : FilesHold P s.slots) : OutcomeFiles P (execOwnWriteDone s) := by
  refine h.answerWrite_slots (fun x e e' hanswer => ?_)
  cases horigin : x.origin with
  | upstream _ _ _ => rw [horigin] at hanswer; cases hanswer
  | own kind =>
    rw [horigin] at hanswer
    cases kind with
    | statusWord _ | confirmStatus _ | commandStatus _ | description => cases hanswer; rfl
    | openHeader _ _ | sealHeader _ _ | indexEntry _ _ _ | notice | clearing _ | passiveRecord => cases hanswer

theorem FilesHold.readAnswer (h : FilesHold P s.slots) (a : ReadAnswer) : OutcomeFiles P (execReadAnswer a s) := by
  unfold execReadAnswer
  split
  · trivial
  · split
    · split
      · exact h.run (fun _ h => h)
      · trivial
    · exact h.run (fun _ h => h)

theorem FilesHold.probeAnswer (h : FilesHold P s.slots) (a : ProbeAnswer) : OutcomeFiles P (execProbeAnswer a s) := by
  unfold execProbeAnswer
  split
  · trivial
  · split
    · trivial
    · refine h.run (fun e h => ?_)
      dsimp only
      split
      · exact FilesHold.serveAll (FilesHold.searchStep (by simpa using h) _ a)
      · exact h

theorem FilesHold.resetAction (h : FilesHold P s.slots) (a : ResetAction) : FilesHold P (s.resetAction a).slots := by
  have hstart : FilesHold P (Ev.start s).slots := h
  refine FilesHold.finish ?_
  cases a with
  | slots => exact hstart.resetSlots
  | lanes => simpa using h
  | description => simpa using h
  | notices => simpa [Ev.resetNotices] using h

theorem FilesHold.linkReset (h : FilesHold P s.slots) : OutcomeFiles P (execLinkReset s) := by
  have hactions : ∀ (as : List ResetAction) (s : State), FilesHold P s.slots →
      FilesHold P (as.foldl State.resetAction s).slots :=
    foldl_keeps (fun a b : State => FilesHold P a.slots → FilesHold P b.slots) (fun _ h => h) (fun h h' => h' ∘ h) _
      (fun _ a h => h.resetAction a)
  unfold execLinkReset
  split
  · exact h
  · split
    · exact hactions _ _ h
    · exact h

/-- After power-on reset no slot holds a file (R39). -/
theorem FilesHold.reset (P : File → Prop) : FilesHold P State.reset.slots := by
  intro k f hfile
  simp [State.reset, Vector.get, SlotEntry.file?] at hfile

/-- Every command keeps a property that a file has when it is opened and keeps through what is recorded of it. -/
theorem FilesHold.exec (rule : FileRule P) (h : FilesHold P s.slots) (i : Instr) : OutcomeFiles P (exec i s) := by
  cases i with
  | powerOnReset straps => exact FilesHold.reset P
  | profileReadDone bytes => exact h.runIf _ (fun e h => by rwa [Ev.judgeProfile_slots])
  | profileReadError => exact h.runIf _ (fun _ h => h)
  | profileReadTimeout => exact h.runIf _ (fun e h => by rwa [Ev.readTimeout_slots])
  | linkReset => exact h.linkReset
  | upstreamWrite r addr d | openFile r addr d | closeFile r addr d | abandonFile r addr d | dataWrite r addr d
  | register r addr d | unregister r addr d | setClass r addr d | setPattern r addr d | setTable r addr d
  | setSerial r addr d | setTime r addr d | setAttention r addr d | drain r addr d | freeze r addr d | resume r addr d
  | discard r addr d | confirm r addr d | consumerIndex r addr d | commandCodeRefused r addr d =>
    exact h.takeWrite rule r addr d
  | upstreamRead r addr n | slotRead r addr n => exact h.takeRead r addr n
  | writeSend =>
    show OutcomeFiles P (execWriteSend s)
    unfold execWriteSend
    split
    · exact h.ignore
    · exact h.run (fun e h => by rwa [Ev.sendNext_slots])
  | storeWriteAnswer a =>
    unfold Machine.exec
    refine h.answerWrite (fun x e e' he hanswer => ?_)
    split at hanswer
    · cases hanswer; exact he
    · cases hanswer; exact he.upstreamFault rule _ _ x
    · cases hanswer
  | dataWriteFault =>
    unfold Machine.exec
    refine h.answerWrite (fun x e e' he hanswer => ?_)
    split at hanswer
    · cases hanswer; exact he.dataFault rule _ _ _ _ _ _
    · cases hanswer
  | statusWordFault | sealHeaderDone | sealHeaderFault | confirmStatusFault | commandStatusFault
  | descriptionRecordFault | noticeWriteDone | noticeWriteFault | passiveRecordAnswer a =>
    unfold Machine.exec
    refine h.answerWrite_slots (fun x e e' hanswer => ?_)
    split at hanswer
    · cases hanswer; simp
    · cases hanswer
  | openHeaderAnswer a | indexEntryAnswer a | clearingWriteAnswer a =>
    unfold Machine.exec
    refine h.answerWrite_slots (fun x e e' hanswer => ?_)
    split at hanswer
    · cases hanswer; simp
    · cases hanswer; simp
    · cases hanswer
  | ownWriteDone => exact h.ownWriteDone
  | readAnswer a => exact h.readAnswer a
  | probeAnswer a => exact h.probeAnswer a
  | tick =>
    refine h.run (fun e h => FilesHold.testTimers ?_)
    simpa using h
  | quietExpiry n => exact h.runIf _ (fun e h => by rwa [Ev.expireQuiet_slots])
  | ageExpiry n => exact h.runIf _ (fun e h => by rwa [Ev.expireAge_slots])
  | stragglerExpiry n => exact h.runIf _ (fun e h => FilesHold.expireStraggler (e := { e with inOrder := true }) h n)

/-- Every step keeps a property that a file has when it is opened and keeps through what is recorded of it. -/
theorem FilesHold.step (rule : FileRule P) (h : FilesHold P s.slots) {t : State} (hstep : step s = .next t) :
    FilesHold P t.slots := by
  unfold Machine.step at hstep
  split at hstep
  · cases hstep
    exact h
  · next c rest _ =>
    have hexec := FilesHold.exec (s := { s with pending := rest }) rule h c
    rwa [hstep] at hexec

end

end Sys2Proof.Machine

namespace Sys2Proof.Safety

open Sys2Proof.Machine

/-! ### The fixed form as a property of a file -/

theorem coverageOk_tracked {f : File} {l : List Extent} (h : f.account.coverage = .tracked l) :
    coverageOk f = true ↔ l.length ≤ 8 ∧ orderedFrom f.intent.length 0 l = true := by
  simp [coverageOk, h]

theorem coverageOk_scattered {f : File} (h : f.account.coverage = .scattered) : coverageOk f = true := by
  simp [coverageOk, h]

/-- The form speaks of the coverage and the declared length alone. -/
theorem coverageOk_congr {f g : File} (hintent : g.intent = f.intent)
    (hcoverage : g.account.coverage = f.account.coverage) : coverageOk g = coverageOk f := by
  unfold coverageOk
  rw [hintent, hcoverage]

/-- A write with in-file bytes keeps the fixed form: it merges its range, or scatters the file (R47, R48). -/
theorem coverageOk_recordWrite {f : File} {o : Nat} {bytes : List Byte} (h : coverageOk f = true) (hbytes : bytes ≠ [])
    (hin : o + bytes.length ≤ f.intent.length) (beyond : Nat) : coverageOk (f.recordWrite o bytes beyond) = true := by
  have hcoverage : (f.recordWrite o bytes beyond).account.coverage
      = f.account.coverage.record { start := o, stop := o + bytes.length } := by
    rw [File.recordWrite_account]
  have hne : o < o + bytes.length := Nat.lt_add_of_pos_right (List.length_pos_iff.mpr hbytes)
  cases hold : f.account.coverage with
  | scattered => exact coverageOk_scattered (by rw [hcoverage, hold]; rfl)
  | tracked l =>
    obtain ⟨_, hform⟩ := (coverageOk_tracked hold).mp h
    rw [hold, Coverage.record_tracked] at hcoverage
    split at hcoverage
    · next hfew =>
      exact (coverageOk_tracked hcoverage).mpr ⟨hfew, orderedFrom_mergeExtent l hform (Nat.zero_le _) hne hin⟩
    · exact coverageOk_scattered hcoverage

theorem coverageOk_fileRule : FileRule (fun f => coverageOk f = true) where
  opened _ _ := rfl
  overrun f n h := 
    (coverageOk_congr (f := f) (g := { f with account := f.account.addOverrun n }) rfl
      (by rw [Account.addOverrun_eq])).trans h
  recorded _ _ _ beyond h hbytes hin := coverageOk_recordWrite h hbytes hin beyond
  faulted _ h := h

/-- Settles O55: the fixed form holds of an opened file and through all that is recorded of it, so every step keeps it. -/
theorem everyStepKeepsExtentsInForm : Obligations.EveryStepKeepsExtentsInForm := by
  unfold Obligations.EveryStepKeepsExtentsInForm
  intro s t h hstep
  exact FilesHold.step coverageOk_fileRule h hstep

end Sys2Proof.Safety
end

section
/-! SUPPORT. The sums of a digest in closed form (R56, R59, R64), and the obligation on them. -/

namespace Sys2Proof.Machine

open Sys2Proof.Safety

/-- The sum of the bytes of a list: what they add to S (R59). -/
def byteSum (bs : List Byte) : Nat := (bs.map BitVec.toNat).sum

/-- The sum of the bytes at offsets `o`, `o + 1`, ..., each times its weight: what they add to P (R59). -/
def weightedSum (o : Nat) (bs : List Byte) : Nat := (bs.zipIdx.map (fun x => (o + x.2 + 1) % 65521 * x.1.toNat)).sum

theorem byteSum_cons (b : Byte) (bs : List Byte) : byteSum (b :: bs) = b.toNat + byteSum bs := by
  simp [byteSum]

theorem weightedSum_cons (o : Nat) (b : Byte) (bs : List Byte) :
    weightedSum o (b :: bs) = (o + 1) % 65521 * b.toNat + weightedSum (o + 1) bs := by
  have hweight : ∀ i : Nat, o + (i + 1) + 1 = o + 1 + i + 1 := fun i => by omega
  rw [weightedSum, List.zipIdx_cons', List.map_cons, List.sum_cons, List.map_map]
  simp only [weightedSum, Function.comp_def, Prod.map, id, hweight, Nat.add_zero]

/-- Both sums after bytes are added at an offset (R59): one reduction modulo 65,521 stands for one at each byte. -/
theorem Acc.addBytes_eq {a : Acc} (h : AccOk a) (o : Nat) (bs : List Byte) :
    a.addBytes o bs = { s := (a.s + byteSum bs) % 65521, p := (a.p + weightedSum o bs) % 65521 } := by
  induction bs generalizing a o with
  | nil =>
    obtain ⟨hs, hp⟩ := h
    simp [Acc.addBytes, byteSum, weightedSum, Nat.mod_eq_of_lt hs, Nat.mod_eq_of_lt hp]
  | cons b bs ih =>
    have hone : AccOk (a.addByte o b) := ⟨Nat.mod_lt _ (by decide), Nat.mod_lt _ (by decide)⟩
    rw [Acc.addBytes, ih hone, byteSum_cons, weightedSum_cons]
    simp only [Acc.addByte, digestModulus, Nat.add_mod_mod, Nat.mod_add_mod, Nat.add_assoc]

theorem Acc.addBytes_ok {a : Acc} (h : AccOk a) (o : Nat) (bs : List Byte) : AccOk (a.addBytes o bs) := by
  rw [Acc.addBytes_eq h]
  exact ⟨Nat.mod_lt _ (by decide), Nat.mod_lt _ (by decide)⟩

/-- A fold reduces both sums, whatever is folded into what. -/
theorem Acc.fold_ok (a f : Acc) (d : Nat) : AccOk (a.fold f d) :=
  ⟨Nat.mod_lt _ (by decide), Nat.mod_lt _ (by decide)⟩

/-- A byte that lies `d` further on weighs `d` more, so the weighted sum rises by `d` times the sum (R64). -/
theorem weightedSum_shift (d o : Nat) (bs : List Byte) :
    weightedSum (d + o) bs ≡ weightedSum o bs + d * byteSum bs [MOD 65521] := by
  induction bs generalizing o with
  | nil => rfl
  | cons b bs ih =>
    rw [weightedSum_cons, weightedSum_cons, byteSum_cons]
    have hweight : (d + o + 1) % 65521 * b.toNat ≡ (o + 1) % 65521 * b.toNat + d * b.toNat [MOD 65521] :=
      calc (d + o + 1) % 65521 * b.toNat
        _ ≡ (d + o + 1) * b.toNat [MOD 65521] := (Nat.mod_modEq _ _).mul_right _
        _ = (o + 1) * b.toNat + d * b.toNat := by ring
        _ ≡ (o + 1) % 65521 * b.toNat + d * b.toNat [MOD 65521] := ((Nat.mod_modEq _ _).symm.mul_right _).add_right _
    calc (d + o + 1) % 65521 * b.toNat + weightedSum (d + o + 1) bs
      _ ≡ (o + 1) % 65521 * b.toNat + d * b.toNat + (weightedSum (o + 1) bs + d * byteSum bs) [MOD 65521] :=
        hweight.add (ih (o + 1))
      _ = (o + 1) % 65521 * b.toNat + weightedSum (o + 1) bs + d * (b.toNat + byteSum bs) := by ring

/-- A fold at body offset `d` adds what the file's bytes lying from `d` on add (R64). -/
theorem Acc.fold_addBytes {a : Acc} (h : AccOk a) (bs : List Byte) (d : Nat) :
    a.fold (Acc.zero.addBytes 0 bs) d = a.addBytes d bs := by
  have hshift := (weightedSum_shift d 0 bs).add_left a.p
  have hfold : a.p + weightedSum 0 bs % 65521 + d % 65521 * (byteSum bs % 65521)
      ≡ a.p + (weightedSum 0 bs + d * byteSum bs) [MOD 65521] := by
    rw [Nat.add_assoc]
    exact ((Nat.mod_modEq _ _).add ((Nat.mod_modEq _ _).mul (Nat.mod_modEq _ _))).add_left a.p
  have hzero : AccOk Acc.zero := by decide
  rw [Acc.addBytes_eq h, Acc.addBytes_eq hzero]
  simp only [Acc.fold, Acc.zero, digestModulus, Nat.zero_add, Nat.add_mod_mod, Acc.mk.injEq, true_and]
  exact hfold.trans hshift.symm

/-- Bytes may be added in any order (R60). -/
theorem Acc.addBytes_comm {a : Acc} (h : AccOk a) (bs cs : List Byte) (o q : Nat) :
    (a.addBytes o bs).addBytes q cs = (a.addBytes q cs).addBytes o bs := by
  rw [Acc.addBytes_eq (Acc.addBytes_ok h o bs), Acc.addBytes_eq (Acc.addBytes_ok h q cs), Acc.addBytes_eq h,
    Acc.addBytes_eq h]
  simp only [Nat.mod_add_mod, Nat.add_right_comm]

end Sys2Proof.Machine

namespace Sys2Proof.Safety

open Sys2Proof.Machine

/-- Settles O50: both sums are linear in the bytes and their weights, so a fold shifts the weights and the order of two
parts does not matter. -/
theorem foldingAFileAddsItsBytesInPlace : Obligations.FoldingAFileAddsItsBytesInPlace := by
  unfold Obligations.FoldingAFileAddsItsBytesInPlace
  intro a bs h
  refine ⟨fun o => ?_, Acc.fold_addBytes h bs, Acc.addBytes_comm h bs, fun o => Acc.addBytes_ok h o bs⟩
  rw [Acc.addBytes_eq h]
  exact ⟨rfl, rfl⟩

end Sys2Proof.Safety
end

section
/-! SUPPORT. The sums of the frames and the copy pattern through every action: which actions change a frame's sums or
the pattern, and that each keeps them in range (R56, R125). The two are kept apart: neither range rests on the other. -/

namespace Sys2Proof.Machine

open Sys2Proof.Safety

/-- Every pair of sums of the frame records lies in 0..65,520 (R56). -/
def FrameSums (t : Vector Frame 1024) : Prop := ∀ n : FrameNo, AccOk (t.get n).body ∧ AccOk (t.get n).index

/-- The period of a pattern is 1..16 and the counter below it (R125). -/
def CopyUnit.InRange (u : CopyUnit) : Prop := 1 ≤ u.period ∧ u.period ≤ 16 ∧ u.counter < u.period

/-- From `s` to `t` the sums of the frames stay in range, and so does the copy pattern. -/
def RangesKept (s t : State) : Prop :=
  (FrameSums s.frames.table → FrameSums t.frames.table) ∧ (s.copy.InRange → t.copy.InRange)

/-- What an event has made so far keeps the ranges. -/
abbrev Ev.KeepsRanges (e e' : Ev) : Prop := RangesKept e.toState e'.toState

theorem RangesKept.refl (s : State) : RangesKept s s := ⟨id, id⟩

theorem RangesKept.trans {s t u : State} (h : RangesKept s t) (h' : RangesKept t u) : RangesKept s u :=
  ⟨h'.1 ∘ h.1, h'.2 ∘ h.2⟩

/-- What changes neither a frame's record nor the pattern keeps the ranges. -/
theorem RangesKept.of_same {s t : State} (hframes : t.frames.table = s.frames.table) (hcopy : t.copy = s.copy) :
    RangesKept s t := by
  rw [RangesKept, hframes, hcopy]
  exact ⟨id, id⟩

theorem RangesKept.foldl {β : Type} {f : Ev → β → Ev} (hf : ∀ (e : Ev) (b : β), e.KeepsRanges (f e b))
    (l : List β) (e : Ev) : e.KeepsRanges (l.foldl f e) :=
  foldl_keeps (fun a b : Ev => a.KeepsRanges b) (fun e => .refl e.toState) RangesKept.trans f hf l e

/-! ### A frame's record replaced -/

theorem Ev.setFrame_keepsRanges (e : Ev) (n : FrameNo) {x : Frame}
    (hx : FrameSums e.frames.table → AccOk x.body ∧ AccOk x.index) : e.KeepsRanges (e.setFrame n x) := by
  refine ⟨fun h m => ?_, id⟩
  rw [Ev.setFrame_frames, get_put]
  split
  · exact hx h
  · exact h m

/-- A record replaced by one with the same sums. -/
theorem Ev.setFrame_sameSums (e : Ev) (n : FrameNo) {x : Frame} (hbody : x.body = (e.frame n).body := by rfl)
    (hindex : x.index = (e.frame n).index := by rfl) : e.KeepsRanges (e.setFrame n x) :=
  e.setFrame_keepsRanges n (fun h => by rw [hbody, hindex]; exact h n)

/-- A record replaced by one whose sums are empty, as a frame has them until a file ends in it (R66, R89). -/
theorem Ev.setFrame_emptySums (e : Ev) (n : FrameNo) {x : Frame} (hbody : x.body = Acc.zero := by rfl)
    (hindex : x.index = Acc.zero := by rfl) : e.KeepsRanges (e.setFrame n x) :=
  e.setFrame_keepsRanges n (fun _ => by rw [hbody, hindex]; decide)

/-- The end of a file adds to both pairs of sums of its frame (R64, R66). -/
theorem Frame.ended_sums {fr : Frame} (h : AccOk fr.body ∧ AccOk fr.index) (f : File) (p : Placement) (r : EndReport)
    (entry : List Byte) : AccOk (fr.ended f p r entry).body ∧ AccOk (fr.ended f p r entry).index := by
  obtain ⟨hbody, hindex⟩ := h
  refine ⟨?_, Acc.addBytes_ok hindex _ _⟩
  unfold Frame.ended
  dsimp only
  split
  · exact Acc.fold_ok _ _ _
  · exact hbody

/-! ### The copy pattern replaced -/

/-- A seal moves the counter on within its period (R126). -/
theorem CopyUnit.advance_inRange {u : CopyUnit} (h : u.InRange) : u.advance.InRange := by
  obtain ⟨hleast, hmost, _⟩ := h
  exact ⟨hleast, hmost, Nat.mod_lt _ hleast⟩

/-- A pattern newly taken, by SET PATTERN or from the profile, begins its cycle (R148, R171, R174). -/
theorem clampPeriod_inRange (n : Nat) (masks : Vector (BitVec 16) 4) :
    CopyUnit.InRange { period := clampPeriod n, counter := 0, masks := masks } := by
  simp only [CopyUnit.InRange, clampPeriod]
  omega

/-! ### Closing and sealing -/

theorem Ev.post_keepsRanges (e : Ev) (p : Poster) (b : NoticeBody) : e.KeepsRanges (e.post p b) :=
  .of_same (congrArg FrameTable.table (e.post_frames p b)) (e.post_copy p b)

theorem Ev.beginSeal_keepsRanges (e : Ev) (n : FrameNo) : e.KeepsRanges (e.beginSeal n) :=
  ⟨(e.setFrame_sameSums n (x := sealingRecord e.copy (e.frame n))).1, CopyUnit.advance_inRange⟩

theorem Ev.sealIfEmpty_keepsRanges (e : Ev) (n : FrameNo) : e.KeepsRanges (e.sealIfEmpty n) := by
  unfold Ev.sealIfEmpty
  split
  · exact e.beginSeal_keepsRanges n
  · exact .refl _

theorem Ev.dropOpen_keepsRanges (e : Ev) (n : FrameNo) : e.KeepsRanges (e.dropOpen n) := by
  unfold Ev.dropOpen
  dsimp only
  split <;> exact .refl _

theorem Ev.toClosing_keepsRanges (e : Ev) (n : FrameNo) (reason : SealReason) :
    e.KeepsRanges (e.toClosing n reason) := by
  unfold Ev.toClosing
  split
  · exact (e.setFrame_sameSums n).trans (Ev.dropOpen_keepsRanges _ n)
  · exact .refl _

theorem Ev.closeFrame_keepsRanges (e : Ev) (n : FrameNo) (reason : SealReason) :
    e.KeepsRanges (e.closeFrame n reason) :=
  (e.toClosing_keepsRanges n reason).trans (Ev.sealIfEmpty_keepsRanges _ n)

theorem Ev.closeLane_keepsRanges (e : Ev) (l : LaneNo) (reason : SealReason) :
    e.KeepsRanges (e.closeLane l reason) := by
  unfold Ev.closeLane
  split
  · exact e.closeFrame_keepsRanges _ reason
  · exact .refl _

theorem Ev.closeLanes_keepsRanges (e : Ev) (ls : List LaneNo) (reason : SealReason) :
    e.KeepsRanges (e.closeLanes ls reason) :=
  (RangesKept.foldl (fun e n => e.toClosing_keepsRanges n reason) _ e).trans (.foldl Ev.sealIfEmpty_keepsRanges _ _)

/-! ### Frames leaving FREE and returning to it -/

theorem Ev.freeFrame_keepsRanges (e : Ev) (n : FrameNo) : e.KeepsRanges (e.freeFrame n) :=
  e.setFrame_emptySums n (x := Frame.free)

theorem Ev.returnReserved_keepsRanges (e : Ev) (l : LaneNo) : e.KeepsRanges (e.returnReserved l) := by
  unfold Ev.returnReserved
  split
  · exact Ev.freeFrame_keepsRanges _ _
  · exact .refl _

theorem Ev.surrender_keepsRanges (e : Ev) : e.KeepsRanges e.surrender := .foldl Ev.returnReserved_keepsRanges _ e

/-- Lanes emptied of their frames, as DRAIN and the link reset do (R87, R152). -/
theorem Ev.emptyLanes_keepsRanges (e : Ev) (ls : List LaneNo) (reason : SealReason) :
    e.KeepsRanges (ls.foldl Ev.returnReserved (e.closeLanes ls reason)) :=
  (e.closeLanes_keepsRanges ls reason).trans (RangesKept.foldl Ev.returnReserved_keepsRanges ls _)

theorem Ev.openPack_keepsRanges (e : Ev) (n : FrameNo) (l : LaneNo) : e.KeepsRanges (e.openPack n l) := by
  unfold Ev.openPack
  dsimp only
  split <;> exact e.setFrame_emptySums n (x := e.openRecord l)

theorem Ev.reserveLane_keepsRanges (e : Ev) (l : LaneNo) : e.KeepsRanges (e.reserveLane l) := by
  unfold Ev.reserveLane
  split
  · split
    · next n _ => exact e.setFrame_emptySums n (x := { Frame.free with state := .reserved, lane := l })
    · exact .refl _
  · exact .refl _

/-- The end of an event may make reservations, and changes the frames in nothing else (R99). -/
theorem Ev.finish_keepsRanges (e : Ev) : RangesKept e.toState e.finish := by
  have hreserve : e.KeepsRanges e.reserveAll := by
    unfold Ev.reserveAll
    split
    · exact .foldl Ev.reserveLane_keepsRanges _ e
    · exact .refl _
  have hnotice : e.reserveAll.KeepsRanges e.reserveAll.waitNotice := by
    rw [Ev.KeepsRanges, Ev.waitNotice_toState]
    exact .refl _
  exact hreserve.trans hnotice

/-! ### Placing and waiting -/

theorem Ev.touchEntry_keepsRanges (e : Ev) (t : Tag) : e.KeepsRanges (e.touchEntry t) := by
  rw [Ev.touchEntry_eq]
  exact .refl _

theorem Ev.touchLane_keepsRanges (e : Ev) (l : LaneNo) : e.KeepsRanges (e.touchLane l) := by
  rw [Ev.touchLane_eq]
  exact .refl _

theorem Ev.testTarget_keepsRanges (e : Ev) (n : FrameNo) : e.KeepsRanges (e.testTarget n) := by
  simp only [Ev.testTarget]
  split
  · exact e.closeFrame_keepsRanges n .target
  · split
    · exact e.closeFrame_keepsRanges n .count
    · exact .refl _

theorem Ev.place_keepsRanges (e : Ev) (k : SlotNo) (f : File) (c : ClassNo) (l : LaneNo) (n : FrameNo) :
    e.KeepsRanges (e.place k f c l n) := by
  have hrecord : e.KeepsRanges (e.setFrame n ((e.frame n).placed f.intent.length e.lanes.tick)) :=
    e.setFrame_sameSums n
  have htouched := (Ev.touchLane_keepsRanges ((e.setFrame n ((e.frame n).placed f.intent.length e.lanes.tick)).setSlot k
    (.filling f c l { frame := n, entry := (e.frame n).count, offset := (e.frame n).fill })) l).trans
      (Ev.touchEntry_keepsRanges _ f.intent.tag)
  exact (hrecord.trans htouched).trans (Ev.testTarget_keepsRanges _ n)

theorem Walk.run_keepsRanges (g : FrameNo) (l : LaneNo) (ks : List SlotNo) (w : Walk) :
    w.ev.KeepsRanges (Walk.run g l ks w).ev := by
  induction ks generalizing w with
  | nil => exact .refl _
  | cons k ks ih =>
    have hplaced (f : File) (c : ClassNo) (n : FrameNo) : w.ev.KeepsRanges ((w.ev.leaveWait k).place k f c l n) :=
      Ev.place_keepsRanges (w.ev.leaveWait k) k f c l n
    have hopened (e : Ev) (f : File) (c : ClassNo) : e.KeepsRanges (((e.openPack g l).leaveWait k).place k f c l g) :=
      (e.openPack_keepsRanges g l).trans (Ev.place_keepsRanges ((e.openPack g l).leaveWait k) k f c l g)
    unfold Walk.run
    split
    · split
      · split
        · refine RangesKept.trans ?_ (ih _)
          exact hplaced _ _ _
        · split
          · exact .refl _
          · refine RangesKept.trans ?_ (ih _)
            exact (w.ev.closeFrame_keepsRanges _ .full).trans (hopened _ _ _)
      · split
        · exact .refl _
        · refine RangesKept.trans ?_ (ih _)
          exact hopened _ _ _
    · exact ih w

theorem Ev.holdReport_keepsRanges (e : Ev) (k : SlotNo) : e.KeepsRanges (e.holdReport k) := .refl _

theorem Ev.grantOne_keepsRanges (e : Ev) (g : FrameNo) : e.KeepsRanges (e.grantOne g).1 := by
  unfold Ev.grantOne
  split
  · exact .refl _
  · split
    · refine RangesKept.trans ?_ (RangesKept.foldl Ev.holdReport_keepsRanges _ _)
      exact Walk.run_keepsRanges g _ _ { ev := e, used := false, placed := [] }
    · exact .refl _

theorem Ev.grants_keepsRanges (n : Nat) (e : Ev) : e.KeepsRanges (e.grants n) := by
  induction n generalizing e with
  | zero => exact .refl _
  | succ n ih =>
    unfold Ev.grants
    split
    · exact .refl _
    · exact .refl _
    · next g _ _ =>
      have hone := e.grantOne_keepsRanges g
      split
      · next hgrant => rwa [hgrant] at hone
      · next hgrant => rw [hgrant] at hone; exact hone.trans (ih _)

theorem Ev.grantAll_keepsRanges (e : Ev) : e.KeepsRanges e.grantAll := e.grants_keepsRanges _

theorem Ev.grantFreed_keepsRanges (e : Ev) : e.KeepsRanges e.grantFreed := by
  unfold Ev.grantFreed
  split
  · exact e.grantAll_keepsRanges
  · exact .refl _

theorem Ev.joinWait_keepsRanges (e : Ev) (k : SlotNo) (f : File) (c : ClassNo) (l : LaneNo) :
    e.KeepsRanges (e.joinWait k f c l) := by
  unfold Ev.joinWait
  refine RangesKept.trans ?_ (Ev.grantAll_keepsRanges _)
  split
  · exact Ev.surrender_keepsRanges ((e.setSlot k (.waiting f c l)).setWaitQ (e.frames.waitQ ++ [k]))
  · exact .refl e.toState

theorem Ev.openOrWait_keepsRanges (e : Ev) (k : SlotNo) (f : File) (c : ClassNo) (l : LaneNo) :
    e.KeepsRanges (e.openOrWait k f c l) := by
  unfold Ev.openOrWait
  split
  · exact (e.openPack_keepsRanges _ l).trans (Ev.place_keepsRanges _ k f c l _)
  · exact e.joinWait_keepsRanges k f c l

theorem Ev.route_keepsRanges (e : Ev) (k : SlotNo) (f : File) (c : ClassNo) (l : LaneNo) :
    e.KeepsRanges (e.route k f c l) := by
  unfold Ev.route
  split
  · exact e.joinWait_keepsRanges k f c l
  · split
    · split
      · exact e.place_keepsRanges k f c l _
      · exact (e.closeFrame_keepsRanges _ .full).trans (Ev.openOrWait_keepsRanges _ k f c l)
    · exact e.openOrWait_keepsRanges k f c l

/-! ### Lanes -/

theorem Ev.moveWaiters_keepsRanges (e : Ev) (l : LaneNo) : e.KeepsRanges (e.moveWaiters l) := by
  refine RangesKept.foldl (fun e k => ?_) _ e
  split
  · split <;> exact .refl _
  · exact .refl _

theorem Ev.evictLane_keepsRanges (e : Ev) (v : LaneNo) (t : Tag) (c : ClassNo) : e.KeepsRanges (e.evictLane v t c) := by
  have hclosed : e.KeepsRanges ((e.closeLane v .evicted).bindEntry (e.lane v).tag none) :=
    e.closeLane_keepsRanges v .evicted
  exact (hclosed.trans (Ev.moveWaiters_keepsRanges _ v)).trans
    (Ev.post_keepsRanges _ .lane (.laneEvicted v (e.lane v).tag t))

theorem Ev.chooseLane_keepsRanges (e : Ev) (t : Tag) (c : ClassNo) : e.KeepsRanges (e.chooseLane t c).1 := by
  unfold Ev.chooseLane
  split
  · exact .refl _
  · split
    · exact .refl _
    · split
      · exact .refl _
      · split
        · exact .refl _
        · split
          · exact e.evictLane_keepsRanges _ t c
          · exact .refl _

theorem Ev.routeClass_keepsRanges (e : Ev) (k : SlotNo) (f : File) (c : ClassNo) : e.KeepsRanges (e.routeClass k f c) :=
  (e.chooseLane_keepsRanges f.intent.tag c).trans (Ev.route_keepsRanges _ k f c _)

theorem Ev.unbindLane_keepsRanges (e : Ev) (l : LaneNo) (reason : SealReason) : e.KeepsRanges (e.unbindLane l reason) :=
  ((e.closeLane_keepsRanges l reason).trans (Ev.returnReserved_keepsRanges _ l)).trans (Ev.moveWaiters_keepsRanges _ l)

theorem Ev.unbindEntry_keepsRanges (e : Ev) (x : CollEntry) (reason : SealReason) :
    e.KeepsRanges (e.unbindEntry x reason) := by
  unfold Ev.unbindEntry
  split
  · exact e.unbindLane_keepsRanges _ reason
  · exact .refl _

/-! ### Lookups -/

theorem Ev.cacheResult_keepsRanges (e : Ev) (t : Tag) (c : ClassNo) (listed : Bool) :
    e.KeepsRanges (e.cacheResult t c listed) := by
  unfold Ev.cacheResult
  dsimp only
  split
  · exact .refl _
  · split <;> exact .refl _

theorem Ev.deliver_keepsRanges (e : Ev) (k : SlotNo) (c : ClassNo) : e.KeepsRanges (e.deliver k c) := by
  unfold Ev.deliver
  split
  · next f _ =>
    have hrouted : e.KeepsRanges ((e.setLookupQ (e.coll.lookupQ.filter (fun j => j != k))).routeClass k f c) :=
      Ev.routeClass_keepsRanges (e.setLookupQ (e.coll.lookupQ.filter (fun j => j != k))) k f c
    dsimp only
    split <;> exact hrouted
  · exact .refl _

theorem Ev.endSearch_keepsRanges (e : Ev) (q : Search) (c : ClassNo) : e.KeepsRanges (e.endSearch q c) := by
  unfold Ev.endSearch
  dsimp only
  split
  · exact Ev.deliver_keepsRanges (e.setSearch none) q.slot c
  · exact .refl _

theorem Ev.searchFound_keepsRanges (e : Ev) (q : Search) (c : ClassNo) (listed : Bool) :
    e.KeepsRanges (e.searchFound q c listed) := by
  unfold Ev.searchFound
  refine RangesKept.trans ?_ (Ev.endSearch_keepsRanges _ q _)
  split
  · exact e.cacheResult_keepsRanges q.tag c listed
  · exact .refl _

theorem Ev.lookupFault_keepsRanges (e : Ev) (q : Search) (addr : Nat) : e.KeepsRanges (e.lookupFault q addr) :=
  (e.post_keepsRanges _ _).trans (Ev.endSearch_keepsRanges _ q _)

theorem Ev.probe_keepsRanges (e : Ev) (q : Search) : e.KeepsRanges (e.probe q) := by
  unfold Ev.probe
  split
  · exact .refl _
  · exact e.lookupFault_keepsRanges q _

theorem Ev.serve_keepsRanges (n : Nat) (e : Ev) : e.KeepsRanges (e.serve n) := by
  induction n generalizing e with
  | zero => exact .refl _
  | succ n ih =>
    unfold Ev.serve
    split
    · exact .refl _
    · exact .refl _
    · split
      · split
        · exact (e.deliver_keepsRanges _ _).trans (ih _)
        · split
          · exact ((e.cacheResult_keepsRanges _ 0 false).trans (Ev.deliver_keepsRanges _ _ 0)).trans (ih _)
          · exact (e.probe_keepsRanges _).trans (ih _)
      · exact .refl _

theorem Ev.serveAll_keepsRanges (e : Ev) : e.KeepsRanges e.serveAll := Ev.serve_keepsRanges _ e

theorem Ev.searchStep_keepsRanges (e : Ev) (q : Search) (a : ProbeAnswer) : e.KeepsRanges (e.searchStep q a) := by
  unfold Ev.searchStep
  split
  · exact e.lookupFault_keepsRanges q _
  · dsimp only
    split
    · exact e.searchFound_keepsRanges q _ true
    · split
      · split
        · exact e.probe_keepsRanges _
        · exact e.searchFound_keepsRanges q 0 false
      · split
        · exact e.probe_keepsRanges _
        · exact e.searchFound_keepsRanges q 0 false

/-! ### OPEN and the end of a file -/

theorem Ev.decideRoute_keepsRanges (e : Ev) (k : SlotNo) (f : File) : e.KeepsRanges (e.decideRoute k f) := by
  unfold Ev.decideRoute
  split
  · exact e.routeClass_keepsRanges k f _
  · split
    · exact e.routeClass_keepsRanges k f _
    · split
      · exact (e.cacheResult_keepsRanges f.intent.tag 0 false).trans (Ev.routeClass_keepsRanges _ k f 0)
      · exact Ev.serveAll_keepsRanges ((e.setSlot k (.lookup f)).setLookupQ (e.coll.lookupQ ++ [k]))

theorem Ev.actOpen_keepsRanges (e : Ev) (k : SlotNo) (r : Requester) (d : List Byte) :
    e.KeepsRanges (e.actOpen k r d).1 := by
  unfold Ev.actOpen
  split
  · unfold Ev.openIdle
    dsimp only
    split
    · exact .refl _
    · split
      · exact .refl _
      · exact e.decideRoute_keepsRanges k (newFile r d)
  · exact .refl _

/-- The end of a file is where the sums of a frame change (R28). -/
theorem Ev.endFile_keepsRanges (e : Ev) (k : SlotNo) (f : File) (p : Placement) (reason : EndReason) :
    e.KeepsRanges (e.endFile k f p reason).1 :=
  e.setFrame_keepsRanges p.frame (fun h => Frame.ended_sums (h p.frame) f p (f.endReport reason)
    (indexEntryBytes f k p reason (f.endReport reason) e.cmd.bridgeTime))

theorem Ev.endFileHeld_keepsRanges (e : Ev) (k : SlotNo) (reason : EndReason) :
    e.KeepsRanges (e.endFileHeld k reason) := by
  unfold Ev.endFileHeld
  split
  · next f _ _ p _ =>
    refine RangesKept.trans ?_ (Ev.sealIfEmpty_keepsRanges _ p.frame)
    exact e.endFile_keepsRanges k f p reason
  · exact .refl _

theorem Ev.unclaim_keepsRanges (e : Ev) (k : SlotNo) : e.KeepsRanges (e.unclaim k) := by
  unfold Ev.unclaim
  split
  · split <;> exact .refl _
  · exact .refl _

theorem Ev.endQueued_keepsRanges (e : Ev) (k : SlotNo) : e.KeepsRanges (e.endQueued k) := by
  unfold Ev.endQueued
  split
  · exact Ev.unclaim_keepsRanges (e.setLookupQ (e.coll.lookupQ.filter (fun j => j != k))) k
  · exact .refl e.toState
  · exact .refl _

theorem Ev.takeEnd_keepsRanges (e : Ev) (k : SlotNo) (req : Byte) (reason : EndReason) :
    e.KeepsRanges (e.takeEnd k req reason).1 := by
  unfold Ev.takeEnd
  split
  · next f _ _ p _ =>
    exact (e.endFile_keepsRanges k (f.took req) p reason).trans (Ev.sealIfEmpty_keepsRanges _ p.frame)
  · exact e.endQueued_keepsRanges k

theorem Ev.actEnd_keepsRanges (e : Ev) (k : SlotNo) (r : Requester) (d : List Byte) (reason : EndReason) :
    e.KeepsRanges (e.actEnd k r d reason).1 := by
  unfold Ev.actEnd
  split
  · exact .refl _
  · split
    · exact e.takeEnd_keepsRanges k _ reason
    · exact .refl _

theorem Ev.actRecord_keepsRanges (e : Ev) (k : SlotNo) (r : Requester) (addr : UpAddr) (whole : Bool) (d : List Byte) :
    e.KeepsRanges (e.actRecord k r addr whole d).1 := by
  unfold Ev.actRecord
  split
  · exact .refl _
  · split
    · exact e.actOpen_keepsRanges k r d
    · split
      · exact e.actEnd_keepsRanges k r d .closed
      · split
        · exact e.actEnd_keepsRanges k r d .abandoned
        · exact e.post_keepsRanges _ _

/-! ### Confirms and release -/

theorem Ev.release_keepsRanges (e : Ev) (n : FrameNo) (discarded : Bool) : e.KeepsRanges (e.release n discarded) :=
  ((e.freeFrame_keepsRanges n).trans (Ev.post_keepsRanges _ _ _)).trans (Ev.grantAll_keepsRanges _)

theorem Ev.confirmed_keepsRanges (e : Ev) (n : FrameNo) (pool : Nat) : e.KeepsRanges (e.confirmed n pool) := by
  have hrecord := e.setFrame_sameSums n
    (x := { e.frame n with confirmed := (e.frame n).confirmedWith pool })
  unfold Ev.confirmed
  dsimp only
  split
  · exact hrecord.trans (Ev.release_keepsRanges _ n false)
  · exact hrecord

theorem Ev.mismatched_keepsRanges (e : Ev) (n : FrameNo) (c : ConfirmCell) : e.KeepsRanges (e.mismatched n c) := by
  unfold Ev.mismatched
  dsimp only
  split
  · exact ((e.setFrame_sameSums n).trans (Ev.post_keepsRanges _ _ _)).trans (Ev.post_keepsRanges _ _ _)
  · exact (e.setFrame_sameSums n).trans (Ev.post_keepsRanges _ _ _)

theorem Ev.actConfirm_keepsRanges (e : Ev) (k : CellNo) (d : List Byte) : e.KeepsRanges (e.actConfirm k d).1 := by
  unfold Ev.actConfirm
  dsimp only
  split
  · exact .refl _
  · split
    · exact .refl _
    · split
      · split <;> exact e.confirmed_keepsRanges _ _
      · exact e.mismatched_keepsRanges _ _
      · exact .refl _

/-! ### Commands -/

theorem Ev.registerPresent_keepsRanges (e : Ev) (t : Tag) (c : ClassNo) (x : CollEntry) :
    e.KeepsRanges (e.registerPresent t c x) := by
  unfold Ev.registerPresent
  split
  · exact .refl _
  · exact e.unbindEntry_keepsRanges x .reclass

theorem Ev.postEvicted_keepsRanges (e : Ev) (x : CollEntry) : e.KeepsRanges (e.postEvicted x) := by
  unfold Ev.postEvicted
  split
  · exact e.post_keepsRanges _ _
  · exact .refl _

theorem Ev.registerAbsent_keepsRanges (e : Ev) (t : Tag) (c : ClassNo) : e.KeepsRanges (e.registerAbsent t c).1 := by
  unfold Ev.registerAbsent
  split
  · exact .refl _
  · split
    · next x _ => exact (e.unbindEntry_keepsRanges x .evicted).trans (Ev.postEvicted_keepsRanges _ x)
    · exact .refl _

theorem Ev.doRegister_keepsRanges (e : Ev) (d : List Byte) : e.KeepsRanges (e.doRegister d).1 := by
  unfold Ev.doRegister
  dsimp only
  split
  · exact .refl _
  · split
    · exact (e.registerPresent_keepsRanges _ _ _).trans (Ev.grantFreed_keepsRanges _)
    · exact (e.registerAbsent_keepsRanges _ _).trans (Ev.grantFreed_keepsRanges _)

theorem Ev.doUnregister_keepsRanges (e : Ev) (d : List Byte) : e.KeepsRanges (e.doUnregister d).1 := by
  unfold Ev.doUnregister
  dsimp only
  split
  · exact .refl _
  · next x _ =>
    refine RangesKept.trans ?_ (Ev.grantFreed_keepsRanges _)
    exact e.unbindEntry_keepsRanges x .reclass

theorem Ev.doSetClass_keepsRanges (e : Ev) (d : List Byte) : e.KeepsRanges (e.doSetClass d).1 := by
  unfold Ev.doSetClass
  split <;> exact .refl _

theorem Ev.doSetPattern_keepsRanges (e : Ev) (d : List Byte) : e.KeepsRanges (e.doSetPattern d).1 :=
  ⟨id, fun _ => clampPeriod_inRange _ _⟩

theorem Ev.doSetSerial_keepsRanges (e : Ev) (d : List Byte) : e.KeepsRanges (e.doSetSerial d).1 := by
  unfold Ev.doSetSerial
  dsimp only
  split <;> exact .refl _

theorem Ev.doDrain_keepsRanges (e : Ev) (d : List Byte) : e.KeepsRanges (e.doDrain d).1 := by
  unfold Ev.doDrain
  split
  · exact .refl _
  · next ls _ => exact (e.emptyLanes_keepsRanges ls .drain).trans (Ev.grantFreed_keepsRanges _)

theorem Ev.doFreeze_keepsRanges (e : Ev) : e.KeepsRanges e.doFreeze.1 := by
  unfold Ev.doFreeze
  split <;> exact .refl _

theorem Ev.doResume_keepsRanges (e : Ev) (d : List Byte) : e.KeepsRanges (e.doResume d).1 := by
  unfold Ev.doResume
  split
  · exact .refl _
  · split
    · exact e.setFrame_sameSums _
    · exact .refl _

theorem Ev.doDiscard_keepsRanges (e : Ev) (d : List Byte) : e.KeepsRanges (e.doDiscard d).1 := by
  unfold Ev.doDiscard
  split
  · exact .refl _
  · split
    · exact e.release_keepsRanges _ true
    · exact .refl _

theorem Ev.judgeCommand_keepsRanges (e : Ev) (code : Nat) (d : List Byte) :
    e.KeepsRanges (e.judgeCommand code d).1 := by
  unfold Ev.judgeCommand
  split
  · exact .refl _
  · split
    · exact e.doRegister_keepsRanges d
    · exact e.doUnregister_keepsRanges d
    · exact e.doSetClass_keepsRanges d
    · exact e.doSetPattern_keepsRanges d
    · exact .refl _
    · exact e.doSetSerial_keepsRanges d
    · exact .refl _
    · exact .refl _
    · exact e.doDrain_keepsRanges d
    · exact e.doFreeze_keepsRanges
    · exact e.doResume_keepsRanges d
    · exact e.doDiscard_keepsRanges d
    · exact .refl _

theorem Ev.actCommand_keepsRanges (e : Ev) (c : CellNo) (d : List Byte) : e.KeepsRanges (e.actCommand c d).1 := by
  unfold Ev.actCommand
  split
  · exact .refl _
  · exact e.judgeCommand_keepsRanges _ d

/-! ### A write on the ingest link -/

theorem Ev.countStray_keepsRanges (e : Ev) (r : Requester) (addr : UpAddr) : e.KeepsRanges (e.countStray r addr) := by
  obtain ⟨notes, posted, hform⟩ := e.countStray_form r addr
  rw [hform]
  exact .refl _

theorem Ev.actConsumer_keepsRanges (e : Ev) (d : List Byte) : e.KeepsRanges (e.actConsumer d) := by
  unfold Ev.actConsumer
  dsimp only
  split <;> exact .refl _

/-- The event that a verdict brings about, if any, keeps the ranges. -/
def Verdict.KeepsRanges (s : State) : Verdict → Prop
  | .retry => True
  | .drop e => RangesKept s e.toState
  | .take e _ _ _ _ => RangesKept s e.toState

theorem Ev.dataWrite_keepsRanges (e : Ev) (k : SlotNo) (f : File) (c : ClassNo) (l : LaneNo) (p : Placement) (o : Nat)
    (d : List Byte) : (e.dataWrite k f c l p o d).KeepsRanges e.toState := by
  unfold Ev.dataWrite
  dsimp only
  split
  · exact RangesKept.refl e.toState
  · split
    · exact RangesKept.trans (e.endFile_keepsRanges k _ p .covered) (Ev.sealIfEmpty_keepsRanges _ p.frame)
    · exact RangesKept.refl e.toState

theorem Ev.slotWrite_keepsRanges (e : Ev) (k : SlotNo) (o : Nat) (r : Requester) (addr : UpAddr) (d : List Byte) :
    (e.slotWrite k o r addr d).KeepsRanges e.toState := by
  have hstray : (Verdict.drop (e.countStray r addr)).KeepsRanges e.toState := e.countStray_keepsRanges r addr
  unfold Ev.slotWrite
  split
  · exact hstray
  · split
    · trivial
    · exact hstray
  · split
    · trivial
    · exact hstray
  · split
    · exact e.dataWrite_keepsRanges k _ _ _ _ o d
    · exact hstray

theorem Ev.controlWrite_keepsRanges (e : Ev) (off : Nat) (r : Requester) (addr : UpAddr) (d : List Byte) :
    (e.controlWrite off r addr d).KeepsRanges e.toState := by
  simp only [Ev.controlWrite, Verdict.KeepsRanges]
  split
  · exact e.actCommand_keepsRanges _ d
  · exact e.actConfirm_keepsRanges _ d
  · exact e.actConsumer_keepsRanges d
  · exact e.actRecord_keepsRanges _ r addr _ d
  · exact e.post_keepsRanges _ _
  · exact RangesKept.refl _

theorem Ev.packWrite_keepsRanges (e : Ev) (off : Nat) (r : Requester) (addr : UpAddr) (d : List Byte) :
    (e.packWrite off r addr d).KeepsRanges e.toState := by
  unfold Ev.packWrite
  split
  · exact e.post_keepsRanges _ _
  · split
    · exact RangesKept.refl e.toState
    · exact e.post_keepsRanges _ _

theorem Ev.unclaimedWrite_keepsRanges (e : Ev) (r : Requester) (addr : UpAddr) (d : List Byte) :
    (e.unclaimedWrite r addr d).KeepsRanges e.toState := by
  unfold Ev.unclaimedWrite
  split
  · split
    · exact e.countStray_keepsRanges r addr
    · split
      · exact e.post_keepsRanges _ _
      · exact RangesKept.refl e.toState
  · exact e.countStray_keepsRanges r addr

theorem Ev.activeWrite_keepsRanges (e : Ev) (r : Requester) (addr : UpAddr) (d : List Byte) :
    (e.activeWrite r addr d).KeepsRanges e.toState := by
  unfold Ev.activeWrite
  split
  · exact e.post_keepsRanges _ _
  · split
    · exact e.controlWrite_keepsRanges _ r addr d
    · exact e.slotWrite_keepsRanges _ _ r addr d
    · exact e.packWrite_keepsRanges _ r addr d
    · split
      · exact e.post_keepsRanges _ _
      · exact RangesKept.refl e.toState
    · exact e.unclaimedWrite_keepsRanges r addr d

theorem Ev.judgeWrite_keepsRanges (e : Ev) (r : Requester) (addr : UpAddr) (d : List Byte) :
    (e.judgeWrite r addr d).KeepsRanges e.toState := by
  unfold Ev.judgeWrite
  split
  · trivial
  · split
    · trivial
    · exact e.activeWrite_keepsRanges r addr d
  · split
    · trivial
    · unfold Ev.passiveWrite
      split <;> exact RangesKept.refl e.toState

theorem State.settleWrite_keepsRanges (s : State) (r : Requester) (addr : UpAddr) {v : Verdict} (hv : v.KeepsRanges s) :
    RangesKept s (s.settleWrite r addr v) := by
  unfold State.settleWrite
  split
  · exact .refl _
  · refine RangesKept.trans ?_ (Ev.finish_keepsRanges _)
    exact hv
  · split
    · refine RangesKept.trans ?_ (Ev.finish_keepsRanges _)
      exact hv
    · exact .refl _

theorem State.takeWrite_keepsRanges (s : State) (r : Requester) (addr : UpAddr) (d : List Byte) :
    RangesKept s (s.takeWrite r addr d) := by
  unfold State.takeWrite
  split
  · exact .refl _
  · exact s.settleWrite_keepsRanges r addr (Ev.judgeWrite_keepsRanges (Ev.start s.clearOut) r addr d)

/-! ### Reads and the store port -/

theorem Ev.sendRead_keepsRanges (e : Ev) (r : Requester) : e.KeepsRanges (e.sendRead r) := by
  unfold Ev.sendRead
  split
  · split <;> exact .refl _
  · exact .refl _

theorem Ev.sendNext_keepsRanges (e : Ev) : e.KeepsRanges e.sendNext := by
  have hqueued (q : StoreQueue) : e.KeepsRanges (e.setQueue q) := .refl _
  have hposted (q : StoreQueue) (p : Poster) (b : NoticeBody) : e.KeepsRanges ((e.setQueue q).post p b) :=
    (hqueued q).trans (Ev.post_keepsRanges _ p b)
  unfold Ev.sendNext
  split
  · exact .refl _
  · dsimp only
    split
    · refine RangesKept.trans ?_ (Ev.sendRead_keepsRanges _ _)
      split
      · split
        · exact hposted _ _ _
        · exact hqueued _
      · exact .refl _
    · split
      · split
        · exact hposted _ _ _
        · exact hqueued _
      · exact .refl _

theorem State.takeRead_keepsRanges (s : State) (r : Requester) (addr : UpAddr) (n : Nat) :
    RangesKept s (s.takeRead r addr n) := by
  unfold State.takeRead
  split
  · exact .refl _
  · split
    · exact .refl _
    · exact .refl _
    · exact .refl _
    · next q _ =>
      exact (Ev.sendRead_keepsRanges ((Ev.start s.clearOut).setAwaiting r (some (.held q))) r).trans
        (Ev.finish_keepsRanges _)

/-- The FAULT flag of a frame is not among its sums (R54, R117). -/
theorem Ev.flagFault_keepsRanges (e : Ev) (n : FrameNo) : e.KeepsRanges (e.flagFault n) := by
  unfold Ev.flagFault
  split
  · exact .refl _
  · exact .refl _
  · exact e.setFrame_sameSums n

theorem Ev.postFault_keepsRanges (e : Ev) (w : FaultedWrite) (addr : Nat) : e.KeepsRanges (e.postFault w addr) :=
  e.post_keepsRanges _ _

theorem Ev.flagAndPost_keepsRanges (e : Ev) (n : FrameNo) (w : FaultedWrite) (addr : Nat) :
    e.KeepsRanges ((e.flagFault n).postFault w addr) :=
  (e.flagFault_keepsRanges n).trans (Ev.postFault_keepsRanges _ w addr)

theorem Ev.markFileFault_keepsRanges (e : Ev) (k : SlotNo) (n : FrameNo) (entry : Nat) :
    e.KeepsRanges (e.markFileFault k n entry) := by
  unfold Ev.markFileFault
  split
  · split <;> exact .refl _
  · exact .refl _

theorem Ev.dataFault_keepsRanges (e : Ev) (r : Requester) (k : SlotNo) (n : FrameNo) (entry addr len : Nat) :
    e.KeepsRanges (e.dataFault r k n entry addr len) :=
  (e.markFileFault_keepsRanges k n entry).trans (Ev.flagAndPost_keepsRanges _ n _ addr)

theorem Ev.upstreamFault_keepsRanges (e : Ev) (r : Requester) (origin : UpOrigin) (x : Entry) :
    e.KeepsRanges (e.upstreamFault r origin x) := by
  cases origin with
  | slotData k n entry => exact e.dataFault_keepsRanges r k n entry _ _
  | passive => exact .refl _
  | control | pack _ | pass _ | unclaimed => exact e.postFault_keepsRanges _ _

theorem Ev.holdFaulted_keepsRanges (e : Ev) (n : FrameNo) : e.KeepsRanges (e.holdFaulted n) :=
  (e.setFrame_sameSums n).trans (Ev.post_keepsRanges _ _ _)

theorem Ev.sealDone_keepsRanges (e : Ev) (n : FrameNo) : e.KeepsRanges (e.sealDone n) := by
  unfold Ev.sealDone
  split
  · split
    · exact e.holdFaulted_keepsRanges n
    · exact (e.setFrame_sameSums n).trans (Ev.post_keepsRanges _ _ _)
  · exact .refl _

theorem Ev.sealFault_keepsRanges (e : Ev) (n : FrameNo) (serial addr : Nat) :
    e.KeepsRanges (e.sealFault n serial addr) := by
  unfold Ev.sealFault
  dsimp only
  split
  · exact (e.flagAndPost_keepsRanges n _ addr).trans (Ev.holdFaulted_keepsRanges _ n)
  · exact e.flagAndPost_keepsRanges n _ addr

/-! ### The profile, the tick and the link reset -/

theorem Ev.judgeProfile_keepsRanges (e : Ev) (d : List Byte) : e.KeepsRanges (e.judgeProfile d) := by
  simp only [Ev.judgeProfile]
  split
  · exact .refl _
  · split
    · exact .refl _
    · have htaken : e.KeepsRanges (e.takeProfile (parseProfile d)) := ⟨id, fun _ => clampPeriod_inRange _ _⟩
      unfold Ev.enterActive
      refine RangesKept.trans ?_ (Ev.post_keepsRanges _ _ _)
      exact htaken

theorem Ev.readTimeout_keepsRanges (e : Ev) : e.KeepsRanges e.readTimeout := by
  unfold Ev.readTimeout
  split <;> exact .refl _

theorem Ev.expireQuiet_keepsRanges (e : Ev) (n : FrameNo) : e.KeepsRanges (e.expireQuiet n) := by
  unfold Ev.expireQuiet
  split
  · exact e.closeFrame_keepsRanges n .quiet
  · exact .refl _

theorem Ev.expireAge_keepsRanges (e : Ev) (n : FrameNo) : e.KeepsRanges (e.expireAge n) := by
  unfold Ev.expireAge
  split
  · exact e.closeFrame_keepsRanges n .age
  · exact .refl _

theorem Ev.forceEnd_keepsRanges (n : FrameNo) (e : Ev) (k : SlotNo) : e.KeepsRanges (Ev.forceEnd n e k) := by
  unfold Ev.forceEnd
  split
  · split
    · exact e.endFileHeld_keepsRanges k .forced
    · exact .refl _
  · exact .refl _

theorem Ev.expireStraggler_keepsRanges (e : Ev) (n : FrameNo) : e.KeepsRanges (e.expireStraggler n) := by
  unfold Ev.expireStraggler
  split
  · exact ((e.setFrame_sameSums n).trans (.foldl (Ev.forceEnd_keepsRanges n) _ _)).trans
      (Ev.sealIfEmpty_keepsRanges _ n)
  · exact .refl _

theorem Ev.testFrame_keepsRanges (e : Ev) (n : FrameNo) : e.KeepsRanges (e.testFrame n) := by
  unfold Ev.testFrame
  split
  · split
    · exact e.expireAge_keepsRanges n
    · exact e.expireQuiet_keepsRanges n
  · exact e.expireStraggler_keepsRanges n
  · exact .refl _

theorem Ev.testTimers_keepsRanges (e : Ev) : e.KeepsRanges e.testTimers := by
  unfold Ev.testTimers
  split
  · exact RangesKept.foldl Ev.testFrame_keepsRanges _ { e with inOrder := true }
  · exact .refl _

theorem Ev.resetSlot_keepsRanges (e : Ev) (k : SlotNo) : e.KeepsRanges (e.resetSlot k) := by
  unfold Ev.resetSlot
  split
  · exact e.endFileHeld_keepsRanges k .reset
  · unfold Ev.resetQueued
    split <;> exact .refl _

theorem Ev.resetSlots_keepsRanges (e : Ev) : e.KeepsRanges e.resetSlots := by
  have hqueues (e' : Ev) : e'.KeepsRanges ((e'.setLookupQ []).setWaitQ []) := .refl _
  unfold Ev.resetSlots
  exact (RangesKept.foldl Ev.resetSlot_keepsRanges (List.finRange 512) e).trans (hqueues _)

theorem Ev.resetLanes_keepsRanges (e : Ev) : e.KeepsRanges e.resetLanes := by
  have hemptied := e.emptyLanes_keepsRanges (List.finRange 32) .reset
  unfold Ev.resetLanes
  generalize (List.finRange 32).foldl Ev.returnReserved _ = e' at hemptied ⊢
  exact hemptied

theorem State.resetAction_keepsRanges (s : State) (a : ResetAction) : RangesKept s (s.resetAction a) := by
  refine RangesKept.trans ?_ (Ev.finish_keepsRanges _)
  cases a with
  | slots => exact (Ev.start s).resetSlots_keepsRanges
  | lanes => exact (Ev.start s).resetLanes_keepsRanges
  | description => exact .refl s
  | notices => exact (Ev.start s).post_keepsRanges _ _

/-! ### Commands by their outcome -/

/-- The next state, if there is one, keeps the ranges. -/
def OutcomeKeepsRanges (s : State) : Host.Outcome State Fault Refusal → Prop
  | .next t => RangesKept s t
  | .fault _ => True
  | .refused _ => True

theorem State.run_keepsRanges (s : State) {f : Ev → Ev} (hf : ∀ e : Ev, e.KeepsRanges (f e)) :
    OutcomeKeepsRanges s (s.run f) :=
  RangesKept.trans (hf (Ev.start s.clearOut)) (Ev.finish_keepsRanges _)

theorem State.ignore_keepsRanges (s : State) : OutcomeKeepsRanges s s.ignore := RangesKept.refl s

/-- A command with an effect in some states alone (log 23). -/
theorem State.runIf_keepsRanges (s : State) (c : Prop) [Decidable c]
    {f : Ev → Ev} (hf : ∀ e : Ev, e.KeepsRanges (f e)) :
    OutcomeKeepsRanges s (if c then s.run f else s.ignore) := by
  split
  · exact s.run_keepsRanges hf
  · exact s.ignore_keepsRanges

theorem State.answerWrite_keepsRanges (s : State) {f : Entry → Ev → Option Ev}
    (hf : ∀ x e e', f x e = some e' → e.KeepsRanges e') : OutcomeKeepsRanges s (s.answerWrite f) := by
  unfold State.answerWrite
  split
  · trivial
  · dsimp only
    split
    · next hanswer =>
      refine RangesKept.trans ?_ (Ev.finish_keepsRanges _)
      exact hf _ _ _ hanswer
    · trivial

theorem execOwnWriteDone_keepsRanges (s : State) : OutcomeKeepsRanges s (execOwnWriteDone s) := by
  refine s.answerWrite_keepsRanges (fun x e e' hanswer => ?_)
  cases horigin : x.origin with
  | upstream _ _ _ => rw [horigin] at hanswer; cases hanswer
  | own kind =>
    rw [horigin] at hanswer
    cases kind with
    | statusWord _ | confirmStatus _ | commandStatus _ | description => cases hanswer; exact .refl _
    | openHeader _ _ | sealHeader _ _ | indexEntry _ _ _ | notice | clearing _ | passiveRecord => cases hanswer

theorem execReadAnswer_keepsRanges (a : ReadAnswer) (s : State) : OutcomeKeepsRanges s (execReadAnswer a s) := by
  unfold execReadAnswer
  split
  · trivial
  · split
    · split
      · exact s.run_keepsRanges (fun e => .refl e.toState)
      · trivial
    · exact s.run_keepsRanges (fun e => .refl e.toState)

theorem execProbeAnswer_keepsRanges (a : ProbeAnswer) (s : State) : OutcomeKeepsRanges s (execProbeAnswer a s) := by
  unfold execProbeAnswer
  split
  · trivial
  · next x rest _ =>
    split
    · trivial
    · refine s.run_keepsRanges (fun e => ?_)
      dsimp only
      split
      · exact (Ev.searchStep_keepsRanges (e.setQueue { e.queue with probes := rest }) _ a).trans
          (Ev.serveAll_keepsRanges _)
      · exact .refl _

theorem execLinkReset_keepsRanges (s : State) : OutcomeKeepsRanges s (execLinkReset s) := by
  unfold execLinkReset
  split
  · exact s.ignore_keepsRanges
  · split
    · exact foldl_keeps RangesKept RangesKept.refl RangesKept.trans State.resetAction State.resetAction_keepsRanges _
        { s.clearOut.discardRequests with port := { s.clearOut.discardRequests.port with linkReset := true } }
    · exact RangesKept.refl s

/-- After power-on reset every frame's sums are empty, and the pattern has its least period (log 12). -/
theorem execPowerOnReset_keepsRanges (straps : Fin 4) (s : State) :
    OutcomeKeepsRanges s (execPowerOnReset straps s) := by
  have hpattern : State.reset.copy.InRange := ⟨by decide, by decide, by decide⟩
  refine ⟨fun _ n => ?_, fun _ => hpattern⟩
  simp [State.reset, Vector.get, Frame.free, Acc.zero]

/-- Every command keeps the sums of the frames and the copy pattern in range. -/
theorem exec_keepsRanges (i : Instr) (s : State) : OutcomeKeepsRanges s (exec i s) := by
  cases i with
  | powerOnReset straps => exact execPowerOnReset_keepsRanges straps s
  | profileReadDone bytes => exact s.runIf_keepsRanges _ (fun e => e.judgeProfile_keepsRanges _)
  | profileReadError => exact s.runIf_keepsRanges _ (fun e => .refl e.toState)
  | profileReadTimeout => exact s.runIf_keepsRanges _ Ev.readTimeout_keepsRanges
  | linkReset => exact execLinkReset_keepsRanges s
  | upstreamWrite r addr d | openFile r addr d | closeFile r addr d | abandonFile r addr d | dataWrite r addr d
  | register r addr d | unregister r addr d | setClass r addr d | setPattern r addr d | setTable r addr d
  | setSerial r addr d | setTime r addr d | setAttention r addr d | drain r addr d | freeze r addr d | resume r addr d
  | discard r addr d | confirm r addr d | consumerIndex r addr d | commandCodeRefused r addr d =>
    exact s.takeWrite_keepsRanges r addr d
  | upstreamRead r addr n | slotRead r addr n => exact s.takeRead_keepsRanges r addr n
  | writeSend =>
    show OutcomeKeepsRanges s (execWriteSend s)
    unfold execWriteSend
    split
    · exact s.ignore_keepsRanges
    · exact s.run_keepsRanges Ev.sendNext_keepsRanges
  | storeWriteAnswer a =>
    unfold Machine.exec
    refine s.answerWrite_keepsRanges (fun x e e' hanswer => ?_)
    split at hanswer
    · cases hanswer; exact .refl _
    · cases hanswer; exact e.upstreamFault_keepsRanges _ _ x
    · cases hanswer
  | dataWriteFault =>
    unfold Machine.exec
    refine s.answerWrite_keepsRanges (fun x e e' hanswer => ?_)
    split at hanswer
    · cases hanswer; exact e.dataFault_keepsRanges _ _ _ _ _ _
    · cases hanswer
  | sealHeaderDone =>
    unfold Machine.exec
    refine s.answerWrite_keepsRanges (fun x e e' hanswer => ?_)
    split at hanswer
    · cases hanswer; exact e.sealDone_keepsRanges _
    · cases hanswer
  | sealHeaderFault =>
    unfold Machine.exec
    refine s.answerWrite_keepsRanges (fun x e e' hanswer => ?_)
    split at hanswer
    · cases hanswer; exact e.sealFault_keepsRanges _ _ _
    · cases hanswer
  | statusWordFault | confirmStatusFault | commandStatusFault | descriptionRecordFault =>
    unfold Machine.exec
    refine s.answerWrite_keepsRanges (fun x e e' hanswer => ?_)
    split at hanswer
    · cases hanswer; exact e.postFault_keepsRanges _ _
    · cases hanswer
  | noticeWriteDone | noticeWriteFault | passiveRecordAnswer a =>
    unfold Machine.exec
    refine s.answerWrite_keepsRanges (fun x e e' hanswer => ?_)
    split at hanswer
    · cases hanswer; exact .refl _
    · cases hanswer
  | openHeaderAnswer a | indexEntryAnswer a =>
    unfold Machine.exec
    refine s.answerWrite_keepsRanges (fun x e e' hanswer => ?_)
    split at hanswer
    · cases hanswer; exact .refl _
    · cases hanswer; exact e.flagAndPost_keepsRanges _ _ _
    · cases hanswer
  | clearingWriteAnswer a =>
    unfold Machine.exec
    refine s.answerWrite_keepsRanges (fun x e e' hanswer => ?_)
    split at hanswer
    · cases hanswer; exact .refl _
    · cases hanswer; exact .refl _
    · cases hanswer
  | ownWriteDone => exact execOwnWriteDone_keepsRanges s
  | readAnswer a => exact execReadAnswer_keepsRanges a s
  | probeAnswer a => exact execProbeAnswer_keepsRanges a s
  | tick =>
    exact s.run_keepsRanges (fun e => (Ev.readTimeout_keepsRanges e.countTick).trans (Ev.testTimers_keepsRanges _))
  | quietExpiry n => exact s.runIf_keepsRanges _ (fun e => e.expireQuiet_keepsRanges n)
  | ageExpiry n => exact s.runIf_keepsRanges _ (fun e => e.expireAge_keepsRanges n)
  | stragglerExpiry n =>
    exact s.runIf_keepsRanges _ (fun e => Ev.expireStraggler_keepsRanges { e with inOrder := true } n)

theorem step_keepsRanges {s t : State} (hstep : step s = .next t) : RangesKept s t := by
  unfold Machine.step at hstep
  split at hstep
  · cases hstep
    exact .refl _
  · next c rest _ =>
    have hexec := exec_keepsRanges c { s with pending := rest }
    rwa [hstep] at hexec

/-! ### The sums of a file -/

/-- A file's sums are empty when it is opened, and change only by bytes added (R56, R59). -/
theorem accOk_fileRule : FileRule (fun f => AccOk f.acc) where
  opened _ _ := by
    show AccOk Acc.zero
    decide
  overrun _ _ h := h
  recorded f o bytes beyond h _ _ := by
    show AccOk (File.acc _)
    rw [File.recordWrite_acc]
    split
    · exact h
    · exact Acc.addBytes_ok h o bytes
  faulted _ h := h

end Sys2Proof.Machine

namespace Sys2Proof.Safety

open Sys2Proof.Machine

/-- Settles O56: the files' sums by the ways a file comes to be and changes, the frames' sums and the pattern by the
actions of every command. -/
theorem everyStepKeepsSumsAndPatternInRange : Obligations.EveryStepKeepsSumsAndPatternInRange := by
  unfold Obligations.EveryStepKeepsSumsAndPatternInRange
  intro s t hstep
  obtain ⟨hsums, hpattern⟩ := step_keepsRanges hstep
  exact ⟨fun ⟨hfiles, hframes⟩ => ⟨FilesHold.step accOk_fileRule hfiles hstep, hsums hframes⟩, hpattern⟩

end Sys2Proof.Safety
end

section
/-! SUPPORT. The frames that lanes hold as OPEN or RESERVED through every action: each action leaves each OPEN and each
RESERVED frame with exactly the lane its record names (R82, R88). -/

namespace Sys2Proof.Machine

open Sys2Proof.Safety

/-- Each OPEN and each RESERVED frame of the frame records is held by exactly the lane its record names, and what a lane
of the lane table holds as OPEN or RESERVED is so (R82, R88). -/
structure HeldBy (lanes : Vector Lane 32) (frames : Vector Frame 1024) : Prop where
  openIs : ∀ l n, (lanes.get l).openFrame = some n → (frames.get n).state = .opened ∧ (frames.get n).lane = l
  reservedIs : ∀ l n, (lanes.get l).reserved = some n → (frames.get n).state = .reserved ∧ (frames.get n).lane = l
  openHas : ∀ n, (frames.get n).state = .opened → (lanes.get (frames.get n).lane).openFrame = some n
  reservedHas : ∀ n, (frames.get n).state = .reserved → (lanes.get (frames.get n).lane).reserved = some n

theorem heldOk_iff (s : State) : HeldOk s ↔ HeldBy s.lanes.table s.frames.table :=
  ⟨fun ⟨h1, h2, h3, h4⟩ => ⟨h1, h2, h3, h4⟩, fun ⟨h1, h2, h3, h4⟩ => ⟨h1, h2, h3, h4⟩⟩

/-- In the event as it stands each OPEN and each RESERVED frame is held by the lane its record names. -/
abbrev Ev.Held (e : Ev) : Prop := HeldBy e.lanes.table e.frames.table

/-- From `s` to `t` the frames that lanes hold stay with them as R82 and R88 say. -/
def HeldKept (s t : State) : Prop := HeldBy s.lanes.table s.frames.table → HeldBy t.lanes.table t.frames.table

/-- What an event has made so far keeps the frames with their lanes. -/
abbrev Ev.KeepsHeld (e e' : Ev) : Prop := HeldKept e.toState e'.toState

theorem HeldKept.refl (s : State) : HeldKept s s := id

theorem HeldKept.trans {s t u : State} (h : HeldKept s t) (h' : HeldKept t u) : HeldKept s u := h' ∘ h

theorem HeldKept.foldl {β : Type} {f : Ev → β → Ev} (hf : ∀ (e : Ev) (b : β), e.KeepsHeld (f e b))
    (l : List β) (e : Ev) : e.KeepsHeld (l.foldl f e) :=
  foldl_keeps (fun a b : Ev => a.KeepsHeld b) (fun e => .refl e.toState) HeldKept.trans f hf l e

/-- A frame that no lane holds as OPEN or RESERVED. -/
def Frame.unheld (f : Frame) : Prop := f.state ≠ .opened ∧ f.state ≠ .reserved

/-! ### A frame's record or a lane replaced -/

/-- A record replaced by one in the same state that names the same lane. -/
theorem Ev.setFrame_sameHold (e : Ev) (n : FrameNo) {x : Frame} (hstate : x.state = (e.frame n).state := by rfl)
    (hlane : x.lane = (e.frame n).lane := by rfl) : e.KeepsHeld (e.setFrame n x) := by
  have hget (m : FrameNo) : ((put e.frames.table n x).get m).state = (e.frames.table.get m).state
      ∧ ((put e.frames.table n x).get m).lane = (e.frames.table.get m).lane := by
    rw [get_put]
    split
    · next h => subst h; exact ⟨hstate, hlane⟩
    · exact ⟨rfl, rfl⟩
  intro ⟨hopen, hreserved, hhasOpen, hhasReserved⟩
  constructor <;> simpa only [Ev.setFrame_frames, Ev.setFrame_lanes, hget]

/-- The record of a frame that no lane holds, replaced by another such. -/
theorem Ev.setFrame_unheld (e : Ev) (n : FrameNo) {x : Frame} (hold : (e.frame n).unheld) (hnew : x.unheld) :
    e.KeepsHeld (e.setFrame n x) := by
  intro ⟨hopen, hreserved, hhasOpen, hhasReserved⟩
  have hold1 : (e.frames.table.get n).state ≠ .opened := hold.1
  have hold2 : (e.frames.table.get n).state ≠ .reserved := hold.2
  obtain ⟨hnew1, hnew2⟩ := hnew
  constructor <;> simp only [Ev.setFrame_frames, Ev.setFrame_lanes, get_put] <;> grind

/-- A lane replaced by one that holds the same frames. -/
theorem Ev.setLane_sameHold (e : Ev) (l : LaneNo) {x : Lane} (hopen : x.openFrame = (e.lane l).openFrame := by rfl)
    (hreserved : x.reserved = (e.lane l).reserved := by rfl) : e.KeepsHeld (e.setLane l x) := by
  have hget (m : LaneNo) : ((put e.lanes.table l x).get m).openFrame = (e.lanes.table.get m).openFrame
      ∧ ((put e.lanes.table l x).get m).reserved = (e.lanes.table.get m).reserved := by
    rw [get_put]
    split
    · next h => subst h; exact ⟨hopen, hreserved⟩
    · exact ⟨rfl, rfl⟩
  intro ⟨hopen, hreserved, hhasOpen, hhasReserved⟩
  constructor <;> simpa only [Ev.setLane_frames, Ev.setLane_lanes, hget]

theorem Frame.unheld_free : Frame.free.unheld := by constructor <;> decide

theorem Frame.unheld_of_state {f : Frame} {x : FrameState} (h : f.state = x) (hopened : x ≠ .opened := by decide)
    (hreserved : x ≠ .reserved := by decide) : f.unheld := by
  rw [Frame.unheld, h]
  exact ⟨hopened, hreserved⟩

/-! ### Closing and sealing -/

theorem Ev.post_keepsHeld (e : Ev) (p : Poster) (b : NoticeBody) : e.KeepsHeld (e.post p b) := by
  rw [Ev.KeepsHeld, HeldKept, Ev.post_frames, Ev.post_lanes]
  exact id

theorem Ev.sealIfEmpty_keepsHeld (e : Ev) (n : FrameNo) : e.KeepsHeld (e.sealIfEmpty n) := by
  by_cases h : e.sealDue n
  · rw [Ev.sealIfEmpty_due h]
    exact e.setFrame_unheld n (x := sealingRecord e.copy (e.frame n)) (Frame.unheld_of_state h.1)
      (Frame.unheld_of_state (x := .sealing) rfl)
  · rw [Ev.sealIfEmpty_not_due h]
    exact .refl _

/-- The record of a frame that has gone CLOSING (R110). -/
def Ev.closingRecord (e : Ev) (n : FrameNo) (reason : SealReason) : Frame :=
  { e.frame n with state := .closing, reason := some reason, closeTick := e.lanes.tick }

/-- An OPEN frame that its lane holds goes CLOSING, and the lane holds no OPEN frame then (R110). -/
theorem Ev.toClosing_held {e : Ev} {n : FrameNo} {l : LaneNo} (h : HoldsOpen e.toState l n) (reason : SealReason) :
    e.toClosing n reason
      = (e.setFrame n (e.closingRecord n reason)).setLane l { e.lane l with openFrame := none } := by
  obtain ⟨hopen, hstate, hlane⟩ := h
  have hstate' : (e.frame n).state = .opened := hstate
  have hlane' : ((e.setFrame n (e.closingRecord n reason)).frame n).lane = l := by
    rw [Ev.frame_setFrame, if_pos rfl]
    exact hlane
  have hopen' : ((e.setFrame n (e.closingRecord n reason)).lane l).openFrame = some n := hopen
  unfold Ev.toClosing
  rw [if_pos hstate']
  show (e.setFrame n (e.closingRecord n reason)).dropOpen n = _
  unfold Ev.dropOpen
  rw [hlane', if_pos hopen']
  rfl

theorem Ev.toClosing_not_open {e : Ev} {n : FrameNo} (h : (e.frame n).state ≠ .opened) (reason : SealReason) :
    e.toClosing n reason = e := if_neg h

/-- An OPEN frame is held by the lane of its record. -/
theorem Ev.Held.holdsOpen {e : Ev} (h : e.Held) {n : FrameNo} (hopen : (e.frame n).state = .opened) :
    HoldsOpen e.toState (e.frame n).lane n := ⟨h.openHas n hopen, hopen, rfl⟩

/-- The OPEN frame of a lane is one that the lane holds. -/
theorem Ev.Held.holdsOpen_lane {e : Ev} (h : e.Held) {l : LaneNo} {n : FrameNo} (hopen : (e.lane l).openFrame = some n) :
    HoldsOpen e.toState l n := ⟨hopen, h.openIs l n hopen⟩

theorem Ev.toClosing_keepsHeld (e : Ev) (n : FrameNo) (reason : SealReason) : e.KeepsHeld (e.toClosing n reason) := by
  intro hheld
  by_cases hopen : (e.frame n).state = .opened
  · obtain ⟨hopenIs, hreservedIs, hopenHas, hreservedHas⟩ := id hheld
    rw [Ev.toClosing_held (Ev.Held.holdsOpen hheld hopen)]
    have hlane : (e.lanes.table.get (e.frame n).lane).openFrame = some n := hopenHas n hopen
    have hopen' : (e.frames.table.get n).state = .opened := hopen
    constructor <;>
      simp only [Ev.setLane_lanes, Ev.setLane_frames, Ev.setFrame_frames, Ev.setFrame_lanes, get_put,
        Ev.closingRecord, Ev.frame, Ev.lane] at hlane ⊢ <;> grind
  · rw [Ev.toClosing_not_open hopen]
    exact hheld

theorem Ev.closeFrame_keepsHeld (e : Ev) (n : FrameNo) (reason : SealReason) :
    e.KeepsHeld (e.closeFrame n reason) :=
  (e.toClosing_keepsHeld n reason).trans (Ev.sealIfEmpty_keepsHeld _ n)

theorem Ev.closeLane_keepsHeld (e : Ev) (l : LaneNo) (reason : SealReason) : e.KeepsHeld (e.closeLane l reason) := by
  unfold Ev.closeLane
  split
  · exact e.closeFrame_keepsHeld _ reason
  · exact .refl _

theorem Ev.closeLanes_keepsHeld (e : Ev) (ls : List LaneNo) (reason : SealReason) :
    e.KeepsHeld (e.closeLanes ls reason) :=
  (HeldKept.foldl (fun e n => e.toClosing_keepsHeld n reason) _ e).trans (.foldl Ev.sealIfEmpty_keepsHeld _ _)

@[simp] theorem Ev.sealIfEmpty_lanes (e : Ev) (n : FrameNo) : (e.sealIfEmpty n).lanes = e.lanes :=
  (e.sealIfEmpty_keeps n).lanes

/-- A cause of closing taken for frame `n` leaves every other frame's record. -/
theorem Ev.closeFrame_otherFrame (e : Ev) {n m : FrameNo} (h : m ≠ n) (reason : SealReason) :
    (e.closeFrame n reason).frame m = e.frame m := by
  have hclosing : (e.toClosing n reason).frame m = e.frame m := by
    have hput (x : Frame) : (e.setFrame n x).frame m = e.frame m := by rw [Ev.frame_setFrame, if_neg h.symm]
    unfold Ev.toClosing
    split
    · unfold Ev.dropOpen
      dsimp only
      split <;> exact hput _
    · rfl
  exact ((Ev.sealIfEmpty_keeps _ n).otherFrame h).trans hclosing

/-- A lane whose OPEN frame is closed holds no OPEN frame. -/
theorem Ev.closeFrame_openFrame {e : Ev} (hheld : e.Held) {l : LaneNo} {n : FrameNo}
    (hopen : (e.lane l).openFrame = some n) (reason : SealReason) :
    ((e.closeFrame n reason).lane l).openFrame = none := by
  rw [Ev.closeFrame, Ev.lane, Ev.sealIfEmpty_lanes, Ev.toClosing_held (hheld.holdsOpen_lane hopen)]
  exact congrArg Lane.openFrame (get_put_same _ _ _)

theorem Ev.closeLane_openFrame {e : Ev} (hheld : e.Held) (l : LaneNo) (reason : SealReason) :
    ((e.closeLane l reason).lane l).openFrame = none := by
  unfold Ev.closeLane
  split
  · next n hopen => exact Ev.closeFrame_openFrame hheld hopen reason
  · next hnone => exact hnone

/-! ### Frames leaving FREE and returning to it -/

theorem Ev.freeFrame_keepsHeld {e : Ev} {n : FrameNo} (h : (e.frame n).unheld) : e.KeepsHeld (e.freeFrame n) :=
  e.setFrame_unheld n h Frame.unheld_free

theorem Ev.returnReserved_keepsHeld (e : Ev) (l : LaneNo) : e.KeepsHeld (e.returnReserved l) := by
  unfold Ev.returnReserved
  split
  · next n hreserved =>
    intro hheld
    obtain ⟨hopenIs, hreservedIs, hopenHas, hreservedHas⟩ := hheld
    have hlane : (e.lanes.table.get l).reserved = some n := hreserved
    have hstate := hreservedIs l n hreserved
    constructor <;>
      simp only [Ev.freeFrame, Ev.dueReserve_frames, Ev.dueReserve_lanes, Ev.setLane_lanes, Ev.setLane_frames,
        Ev.setFrame_frames, Ev.setFrame_lanes, get_put, Ev.lane, Frame.free] <;> grind
  · exact .refl _

theorem Ev.surrender_keepsHeld (e : Ev) : e.KeepsHeld e.surrender := .foldl Ev.returnReserved_keepsHeld _ e

/-- Lanes emptied of their frames, as DRAIN and the link reset do (R87, R152). -/
theorem Ev.emptyLanes_keepsHeld (e : Ev) (ls : List LaneNo) (reason : SealReason) :
    e.KeepsHeld (ls.foldl Ev.returnReserved (e.closeLanes ls reason)) :=
  (e.closeLanes_keepsHeld ls reason).trans (HeldKept.foldl Ev.returnReserved_keepsHeld ls _)

/-- A frame that a new pack of lane `l` may take: the lane's RESERVED frame, or one that is FREE (R93). -/
def Ev.mayOpen (e : Ev) (g : FrameNo) (l : LaneNo) : Prop := (e.lane l).reserved = some g ∨ (e.frame g).state = .free

/-- The lane that a pack is opened for (R96). -/
def Ev.openLane (e : Ev) (g : FrameNo) (l : LaneNo) : Lane :=
  { e.lane l with openFrame := some g, reserved := if (e.lane l).reserved = some g then none else (e.lane l).reserved }

theorem Ev.openPack_frames (e : Ev) (g : FrameNo) (l : LaneNo) :
    (e.openPack g l).frames = { e.frames with table := put e.frames.table g (e.openRecord l) } := by
  unfold Ev.openPack
  dsimp only
  split <;> rfl

theorem Ev.openPack_lanes (e : Ev) (g : FrameNo) (l : LaneNo) :
    (e.openPack g l).lanes = { e.lanes with table := put e.lanes.table l (e.openLane g l) } := by
  unfold Ev.openPack Ev.openLane
  dsimp only
  split <;> rfl

theorem Ev.openPack_keepsHeld {e : Ev} {g : FrameNo} {l : LaneNo} (hlane : (e.lane l).openFrame = none)
    (hframe : e.mayOpen g l) : e.KeepsHeld (e.openPack g l) := by
  intro hheld
  obtain ⟨hopenIs, hreservedIs, hopenHas, hreservedHas⟩ := hheld
  unfold Ev.mayOpen at hframe
  rw [Ev.openPack_frames, Ev.openPack_lanes]
  constructor <;> simp only [get_put, Ev.openRecord, Ev.openLane, Ev.frame, Ev.lane] at hlane hframe ⊢ <;> grind

/-- The lowest-numbered FREE frame is FREE. -/
theorem State.lowestFree_state {s : State} {g : FrameNo} (h : s.lowestFree = some g) :
    (s.frames.table.get g).state = .free := by
  simpa using List.find?_some h

theorem Ev.frameFor_mayOpen {e : Ev} {g : FrameNo} {l : LaneNo} (h : e.frameFor l = some g) : e.mayOpen g l := by
  unfold Ev.frameFor at h
  split at h
  · cases h
  · split at h
    · next hreserved => cases h; exact .inl hreserved
    · exact .inr (State.lowestFree_state h)

theorem Ev.reserveLane_keepsHeld (e : Ev) (l : LaneNo) : e.KeepsHeld (e.reserveLane l) := by
  unfold Ev.reserveLane
  split
  · next hmay =>
    split
    · next n hfree =>
      intro hheld
      obtain ⟨hopenIs, hreservedIs, hopenHas, hreservedHas⟩ := hheld
      have hstate := State.lowestFree_state hfree
      have hnone : (e.lanes.table.get l).reserved = none := by
        simp only [Ev.mayReserve, Bool.and_eq_true, Option.isNone_iff_eq_none] at hmay
        obtain ⟨⟨⟨⟨_, hnone⟩, _⟩, _⟩, _⟩ := hmay
        exact hnone
      constructor <;>
        simp only [Ev.cancelWrites, Ev.setQueue_frames, Ev.setQueue_lanes, Ev.setLane_lanes, Ev.setLane_frames,
          Ev.setFrame_frames, Ev.setFrame_lanes, get_put, Ev.lane] <;> grind
    · exact .refl _
  · exact .refl _

/-- The end of an event may make reservations, and moves no other frame (R99). -/
theorem Ev.finish_keepsHeld (e : Ev) : HeldKept e.toState e.finish := by
  have hreserve : e.KeepsHeld e.reserveAll := by
    unfold Ev.reserveAll
    split
    · exact .foldl Ev.reserveLane_keepsHeld _ e
    · exact .refl _
  have hnotice : e.reserveAll.KeepsHeld e.reserveAll.waitNotice := by
    rw [Ev.KeepsHeld, Ev.waitNotice_toState]
    exact .refl _
  exact hreserve.trans hnotice

/-! ### Placing and waiting -/

theorem Ev.touchEntry_keepsHeld (e : Ev) (t : Tag) : e.KeepsHeld (e.touchEntry t) := by
  rw [Ev.touchEntry_eq]
  exact .refl _

theorem Ev.touchLane_keepsHeld (e : Ev) (l : LaneNo) : e.KeepsHeld (e.touchLane l) := by
  rw [Ev.touchLane_eq]
  exact e.setLane_sameHold l

theorem Ev.testTarget_keepsHeld (e : Ev) (n : FrameNo) : e.KeepsHeld (e.testTarget n) := by
  simp only [Ev.testTarget]
  split
  · exact e.closeFrame_keepsHeld n .target
  · split
    · exact e.closeFrame_keepsHeld n .count
    · exact .refl _

/-- A placement is its record, its slot and its touches, and then the pack's closing test (R94, R95). -/
theorem Ev.place_eq (e : Ev) (k : SlotNo) (f : File) (c : ClassNo) (l : LaneNo) (n : FrameNo) :
    e.place k f c l n = (e.placedIn k f c l n).testTarget n := by
  unfold Ev.place
  simp only [Ev.touchLane_eq, Ev.touchEntry_eq]
  rfl

theorem Ev.place_keepsHeld (e : Ev) (k : SlotNo) (f : File) (c : ClassNo) (l : LaneNo) (n : FrameNo) :
    e.KeepsHeld (e.place k f c l n) := by
  rw [Ev.place_eq]
  refine HeldKept.trans ?_ (Ev.testTarget_keepsHeld _ n)
  exact (e.setFrame_sameHold n (x := withFile (e.frame n) f.intent.length e.lanes.tick)).trans
    (Ev.setLane_sameHold (e.setFrame n (withFile (e.frame n) f.intent.length e.lanes.tick)) l
      (x := { e.lane l with lastPlace := placedAt e.toState l }))

theorem Ev.testTarget_otherFrame (e : Ev) {n m : FrameNo} (h : m ≠ n) : (e.testTarget n).frame m = e.frame m := by
  simp only [Ev.testTarget]
  split
  · exact e.closeFrame_otherFrame h .target
  · split
    · exact e.closeFrame_otherFrame h .count
    · rfl

/-- A placement in frame `n` leaves every other frame's record. -/
theorem Ev.place_otherFrame (e : Ev) {n m : FrameNo} (h : m ≠ n) (k : SlotNo) (f : File) (c : ClassNo) (l : LaneNo) :
    (e.place k f c l n).frame m = e.frame m := by
  rw [Ev.place_eq, Ev.testTarget_otherFrame _ h]
  exact get_put_other _ _ _ _ h.symm

/-- While the granted frame `g` has not been opened, it is FREE. -/
def Walk.GrantFree (g : FrameNo) (w : Walk) : Prop := w.used = false → (w.ev.frame g).state = .free

theorem Walk.run_keepsHeld (g : FrameNo) (l : LaneNo) (ks : List SlotNo) (w : Walk) (hfree : w.GrantFree g) :
    w.ev.KeepsHeld (Walk.run g l ks w).ev := by
  induction ks generalizing w with
  | nil => exact .refl _
  | cons k ks ih =>
    have hopened {e : Ev} (hlane : (e.lane l).openFrame = none) (hg : (e.frame g).state = .free) (f : File)
        (c : ClassNo) : e.KeepsHeld (((e.openPack g l).leaveWait k).place k f c l g) :=
      (Ev.openPack_keepsHeld hlane (.inr hg)).trans (Ev.place_keepsHeld ((e.openPack g l).leaveWait k) k f c l g)
    unfold Walk.run
    split
    · next f c _ _ =>
      split
      · next n hopen =>
        intro hheld
        have hother (h : w.used = false) : g ≠ n := by
          intro hgn
          have hstate := hfree h
          rw [hgn, Ev.frame, (Ev.Held.holdsOpen_lane hheld hopen).2.1] at hstate
          cases hstate
        split
        · refine ih _ (fun hused => ?_) (Ev.place_keepsHeld (w.ev.leaveWait k) k f c l n hheld)
          rw [Ev.place_otherFrame _ (hother hused)]
          exact hfree hused
        · split
          · exact hheld
          · next hused =>
            have hunused : w.used = false := by simp_all
            have hg : ((w.ev.closeFrame n .full).frame g).state = .free := by
              rw [Ev.closeFrame_otherFrame _ (hother hunused)]
              exact hfree hunused
            have hclosed := w.ev.closeFrame_keepsHeld n .full hheld
            exact ih _ (fun hcontra => by cases hcontra)
              (hopened (Ev.closeFrame_openFrame hheld hopen .full) hg f c hclosed)
      · next hnone =>
        split
        · exact .refl _
        · next hused =>
          have hunused : w.used = false := by simp_all
          refine HeldKept.trans ?_ (ih _ (fun hcontra => by cases hcontra))
          exact hopened hnone (hfree hunused) f c
    · exact ih w hfree

theorem Ev.holdReport_keepsHeld (e : Ev) (k : SlotNo) : e.KeepsHeld (e.holdReport k) := .refl _

theorem Ev.grantOne_keepsHeld {e : Ev} {g : FrameNo} (hfree : (e.frame g).state = .free) :
    e.KeepsHeld (e.grantOne g).1 := by
  unfold Ev.grantOne
  split
  · exact .refl _
  · split
    · refine HeldKept.trans ?_ (HeldKept.foldl Ev.holdReport_keepsHeld _ _)
      exact Walk.run_keepsHeld g _ _ { ev := e, used := false, placed := [] } (fun _ => hfree)
    · exact .refl _

theorem Ev.grants_keepsHeld (n : Nat) (e : Ev) : e.KeepsHeld (e.grants n) := by
  induction n generalizing e with
  | zero => exact .refl _
  | succ n ih =>
    unfold Ev.grants
    split
    · exact .refl _
    · exact .refl _
    · next g hlowest _ =>
      have hone := Ev.grantOne_keepsHeld (e := e) (State.lowestFree_state hlowest)
      split
      · next hgrant => rwa [hgrant] at hone
      · next hgrant => rw [hgrant] at hone; exact hone.trans (ih _)

theorem Ev.grantAll_keepsHeld (e : Ev) : e.KeepsHeld e.grantAll := e.grants_keepsHeld _

theorem Ev.grantFreed_keepsHeld (e : Ev) : e.KeepsHeld e.grantFreed := by
  unfold Ev.grantFreed
  split
  · exact e.grantAll_keepsHeld
  · exact .refl _

theorem Ev.joinWait_keepsHeld (e : Ev) (k : SlotNo) (f : File) (c : ClassNo) (l : LaneNo) :
    e.KeepsHeld (e.joinWait k f c l) := by
  unfold Ev.joinWait
  refine HeldKept.trans ?_ (Ev.grantAll_keepsHeld _)
  split
  · exact Ev.surrender_keepsHeld ((e.setSlot k (.waiting f c l)).setWaitQ (e.frames.waitQ ++ [k]))
  · exact .refl e.toState

theorem Ev.openOrWait_keepsHeld {e : Ev} {l : LaneNo} (hlane : (e.lane l).openFrame = none) (k : SlotNo) (f : File)
    (c : ClassNo) : e.KeepsHeld (e.openOrWait k f c l) := by
  unfold Ev.openOrWait
  split
  · next hframe =>
    exact (Ev.openPack_keepsHeld hlane (Ev.frameFor_mayOpen hframe)).trans (Ev.place_keepsHeld _ k f c l _)
  · exact e.joinWait_keepsHeld k f c l

theorem Ev.route_keepsHeld (e : Ev) (k : SlotNo) (f : File) (c : ClassNo) (l : LaneNo) :
    e.KeepsHeld (e.route k f c l) := by
  unfold Ev.route
  split
  · exact e.joinWait_keepsHeld k f c l
  · split
    · next n hopen =>
      split
      · exact e.place_keepsHeld k f c l n
      · intro hheld
        exact Ev.openOrWait_keepsHeld (Ev.closeFrame_openFrame hheld hopen .full) k f c
          (e.closeFrame_keepsHeld n .full hheld)
    · next hnone => exact Ev.openOrWait_keepsHeld hnone k f c

/-! ### Lanes -/

theorem Ev.moveWaiters_keepsHeld (e : Ev) (l : LaneNo) : e.KeepsHeld (e.moveWaiters l) := by
  refine HeldKept.foldl (fun e k => ?_) _ e
  split
  · split <;> exact .refl _
  · exact .refl _

theorem Ev.bindLane_keepsHeld (e : Ev) (l : LaneNo) (t : Tag) (c : ClassNo) : e.KeepsHeld (e.bindLane l t c) :=
  e.setLane_sameHold l (x := { e.lane l with binding := .collection t c, lastPlace := e.lanes.tick })

theorem Ev.evictLane_keepsHeld (e : Ev) (v : LaneNo) (t : Tag) (c : ClassNo) : e.KeepsHeld (e.evictLane v t c) := by
  have hclosed : e.KeepsHeld ((e.closeLane v .evicted).bindEntry (e.lane v).tag none) :=
    e.closeLane_keepsHeld v .evicted
  exact ((hclosed.trans (Ev.moveWaiters_keepsHeld _ v)).trans
    (Ev.post_keepsHeld _ .lane (.laneEvicted v (e.lane v).tag t))).trans (Ev.bindLane_keepsHeld _ v t c)

theorem Ev.chooseLane_keepsHeld (e : Ev) (t : Tag) (c : ClassNo) : e.KeepsHeld (e.chooseLane t c).1 := by
  unfold Ev.chooseLane
  split
  · exact .refl _
  · split
    · exact .refl _
    · split
      · exact .refl _
      · split
        · exact e.bindLane_keepsHeld _ t c
        · split
          · exact e.evictLane_keepsHeld _ t c
          · exact .refl _

theorem Ev.routeClass_keepsHeld (e : Ev) (k : SlotNo) (f : File) (c : ClassNo) : e.KeepsHeld (e.routeClass k f c) :=
  (e.chooseLane_keepsHeld f.intent.tag c).trans (Ev.route_keepsHeld _ k f c _)

theorem Ev.unbindLane_keepsHeld (e : Ev) (l : LaneNo) (reason : SealReason) : e.KeepsHeld (e.unbindLane l reason) := by
  have hmoved := ((e.closeLane_keepsHeld l reason).trans (Ev.returnReserved_keepsHeld _ l)).trans
    (Ev.moveWaiters_keepsHeld _ l)
  unfold Ev.unbindLane
  dsimp only
  generalize ((e.closeLane l reason).returnReserved l).moveWaiters l = e' at hmoved ⊢
  exact hmoved.trans (e'.setLane_sameHold l (x := { e'.lane l with binding := .unbound, lastPlace := 0 }))

theorem Ev.unbindEntry_keepsHeld (e : Ev) (x : CollEntry) (reason : SealReason) :
    e.KeepsHeld (e.unbindEntry x reason) := by
  unfold Ev.unbindEntry
  split
  · exact e.unbindLane_keepsHeld _ reason
  · exact .refl _

/-! ### Lookups -/

theorem Ev.cacheResult_keepsHeld (e : Ev) (t : Tag) (c : ClassNo) (listed : Bool) :
    e.KeepsHeld (e.cacheResult t c listed) := by
  unfold Ev.cacheResult
  dsimp only
  split
  · exact .refl _
  · split <;> exact .refl _

theorem Ev.deliver_keepsHeld (e : Ev) (k : SlotNo) (c : ClassNo) : e.KeepsHeld (e.deliver k c) := by
  unfold Ev.deliver
  split
  · next f _ =>
    have hrouted : e.KeepsHeld ((e.setLookupQ (e.coll.lookupQ.filter (fun j => j != k))).routeClass k f c) :=
      Ev.routeClass_keepsHeld (e.setLookupQ (e.coll.lookupQ.filter (fun j => j != k))) k f c
    dsimp only
    split <;> exact hrouted
  · exact .refl _

theorem Ev.endSearch_keepsHeld (e : Ev) (q : Search) (c : ClassNo) : e.KeepsHeld (e.endSearch q c) := by
  unfold Ev.endSearch
  dsimp only
  split
  · exact Ev.deliver_keepsHeld (e.setSearch none) q.slot c
  · exact .refl _

theorem Ev.searchFound_keepsHeld (e : Ev) (q : Search) (c : ClassNo) (listed : Bool) :
    e.KeepsHeld (e.searchFound q c listed) := by
  unfold Ev.searchFound
  refine HeldKept.trans ?_ (Ev.endSearch_keepsHeld _ q _)
  split
  · exact e.cacheResult_keepsHeld q.tag c listed
  · exact .refl _

theorem Ev.lookupFault_keepsHeld (e : Ev) (q : Search) (addr : Nat) : e.KeepsHeld (e.lookupFault q addr) :=
  (e.post_keepsHeld _ _).trans (Ev.endSearch_keepsHeld _ q _)

theorem Ev.probe_keepsHeld (e : Ev) (q : Search) : e.KeepsHeld (e.probe q) := by
  unfold Ev.probe
  split
  · exact .refl _
  · exact e.lookupFault_keepsHeld q _

theorem Ev.serve_keepsHeld (n : Nat) (e : Ev) : e.KeepsHeld (e.serve n) := by
  induction n generalizing e with
  | zero => exact .refl _
  | succ n ih =>
    unfold Ev.serve
    split
    · exact .refl _
    · exact .refl _
    · split
      · split
        · exact (e.deliver_keepsHeld _ _).trans (ih _)
        · split
          · exact ((e.cacheResult_keepsHeld _ 0 false).trans (Ev.deliver_keepsHeld _ _ 0)).trans (ih _)
          · exact (e.probe_keepsHeld _).trans (ih _)
      · exact .refl _

theorem Ev.serveAll_keepsHeld (e : Ev) : e.KeepsHeld e.serveAll := Ev.serve_keepsHeld _ e

theorem Ev.searchStep_keepsHeld (e : Ev) (q : Search) (a : ProbeAnswer) : e.KeepsHeld (e.searchStep q a) := by
  unfold Ev.searchStep
  split
  · exact e.lookupFault_keepsHeld q _
  · dsimp only
    split
    · exact e.searchFound_keepsHeld q _ true
    · split
      · split
        · exact e.probe_keepsHeld _
        · exact e.searchFound_keepsHeld q 0 false
      · split
        · exact e.probe_keepsHeld _
        · exact e.searchFound_keepsHeld q 0 false

/-! ### OPEN and the end of a file -/

theorem Ev.decideRoute_keepsHeld (e : Ev) (k : SlotNo) (f : File) : e.KeepsHeld (e.decideRoute k f) := by
  unfold Ev.decideRoute
  split
  · exact e.routeClass_keepsHeld k f _
  · split
    · exact e.routeClass_keepsHeld k f _
    · split
      · exact (e.cacheResult_keepsHeld f.intent.tag 0 false).trans (Ev.routeClass_keepsHeld _ k f 0)
      · exact Ev.serveAll_keepsHeld ((e.setSlot k (.lookup f)).setLookupQ (e.coll.lookupQ ++ [k]))

theorem Ev.actOpen_keepsHeld (e : Ev) (k : SlotNo) (r : Requester) (d : List Byte) :
    e.KeepsHeld (e.actOpen k r d).1 := by
  unfold Ev.actOpen
  split
  · unfold Ev.openIdle
    dsimp only
    split
    · exact .refl _
    · split
      · exact .refl _
      · exact e.decideRoute_keepsHeld k (newFile r d)
  · exact .refl _

/-- The end of a file leaves its frame's state and lane (R28). -/
theorem Ev.endFile_keepsHeld (e : Ev) (k : SlotNo) (f : File) (p : Placement) (reason : EndReason) :
    e.KeepsHeld (e.endFile k f p reason).1 :=
  e.setFrame_sameHold p.frame (x := (e.frame p.frame).ended f p (f.endReport reason)
    (indexEntryBytes f k p reason (f.endReport reason) e.cmd.bridgeTime))

theorem Ev.endFileHeld_keepsHeld (e : Ev) (k : SlotNo) (reason : EndReason) :
    e.KeepsHeld (e.endFileHeld k reason) := by
  unfold Ev.endFileHeld
  split
  · next f _ _ p _ =>
    refine HeldKept.trans ?_ (Ev.sealIfEmpty_keepsHeld _ p.frame)
    exact e.endFile_keepsHeld k f p reason
  · exact .refl _

theorem Ev.unclaim_keepsHeld (e : Ev) (k : SlotNo) : e.KeepsHeld (e.unclaim k) := by
  unfold Ev.unclaim
  split
  · split <;> exact .refl _
  · exact .refl _

theorem Ev.endQueued_keepsHeld (e : Ev) (k : SlotNo) : e.KeepsHeld (e.endQueued k) := by
  unfold Ev.endQueued
  split
  · exact Ev.unclaim_keepsHeld (e.setLookupQ (e.coll.lookupQ.filter (fun j => j != k))) k
  · exact .refl e.toState
  · exact .refl _

theorem Ev.takeEnd_keepsHeld (e : Ev) (k : SlotNo) (req : Byte) (reason : EndReason) :
    e.KeepsHeld (e.takeEnd k req reason).1 := by
  unfold Ev.takeEnd
  split
  · next f _ _ p _ =>
    exact (e.endFile_keepsHeld k (f.took req) p reason).trans (Ev.sealIfEmpty_keepsHeld _ p.frame)
  · exact e.endQueued_keepsHeld k

theorem Ev.actEnd_keepsHeld (e : Ev) (k : SlotNo) (r : Requester) (d : List Byte) (reason : EndReason) :
    e.KeepsHeld (e.actEnd k r d reason).1 := by
  unfold Ev.actEnd
  split
  · exact .refl _
  · split
    · exact e.takeEnd_keepsHeld k _ reason
    · exact .refl _

theorem Ev.actRecord_keepsHeld (e : Ev) (k : SlotNo) (r : Requester) (addr : UpAddr) (whole : Bool) (d : List Byte) :
    e.KeepsHeld (e.actRecord k r addr whole d).1 := by
  unfold Ev.actRecord
  split
  · exact .refl _
  · split
    · exact e.actOpen_keepsHeld k r d
    · split
      · exact e.actEnd_keepsHeld k r d .closed
      · split
        · exact e.actEnd_keepsHeld k r d .abandoned
        · exact e.post_keepsHeld _ _

/-! ### Confirms and release -/

theorem Ev.release_keepsHeld {e : Ev} {n : FrameNo} (h : (e.frame n).unheld) (discarded : Bool) :
    e.KeepsHeld (e.release n discarded) :=
  ((Ev.freeFrame_keepsHeld h).trans (Ev.post_keepsHeld _ _ _)).trans (Ev.grantAll_keepsHeld _)

/-- A confirm that passes every check, or fails the last, names a SEALED frame (R129). -/
theorem confirmCheck_sealed {f : Frame} {c : ConfirmCell}
    (h : confirmCheck f c = .confirmed ∨ confirmCheck f c = .mismatch) : f.state = .sealed := by
  by_contra hstate
  rw [confirmCheck, if_pos hstate] at h
  rcases h with h | h <;> cases h

theorem Ev.confirmed_keepsHeld {e : Ev} {n : FrameNo} (h : (e.frame n).state = .sealed) (pool : Nat) :
    e.KeepsHeld (e.confirmed n pool) := by
  have hrecord := e.setFrame_sameHold n (x := { e.frame n with confirmed := (e.frame n).confirmedWith pool })
  have hunheld : ((e.setFrame n { e.frame n with confirmed := (e.frame n).confirmedWith pool }).frame n).unheld := by
    rw [Ev.frame_setFrame, if_pos rfl]
    exact Frame.unheld_of_state (x := .sealed) h
  unfold Ev.confirmed
  dsimp only
  split
  · exact hrecord.trans (Ev.release_keepsHeld hunheld false)
  · exact hrecord

theorem Ev.mismatched_keepsHeld {e : Ev} {n : FrameNo} (h : (e.frame n).state = .sealed) (c : ConfirmCell) :
    e.KeepsHeld (e.mismatched n c) := by
  have hrecord {x : Frame} (hx : x.state = .sealed ∨ x.state = .held) : e.KeepsHeld (e.setFrame n x) := by
    refine e.setFrame_unheld n (Frame.unheld_of_state h) ?_
    rcases hx with hx | hx
    · exact Frame.unheld_of_state hx
    · exact Frame.unheld_of_state hx
  unfold Ev.mismatched
  dsimp only
  split
  · refine HeldKept.trans (HeldKept.trans ?_ (Ev.post_keepsHeld _ _ _)) (Ev.post_keepsHeld _ _ _)
    exact hrecord (.inr rfl)
  · refine HeldKept.trans ?_ (Ev.post_keepsHeld _ _ _)
    exact hrecord (.inl h)

theorem Ev.actConfirm_keepsHeld (e : Ev) (k : CellNo) (d : List Byte) : e.KeepsHeld (e.actConfirm k d).1 := by
  unfold Ev.actConfirm
  dsimp only
  split
  · exact .refl _
  · split
    · exact .refl _
    · split
      · next hcheck => split <;> exact Ev.confirmed_keepsHeld (confirmCheck_sealed (.inl hcheck)) _
      · next hcheck => exact Ev.mismatched_keepsHeld (confirmCheck_sealed (.inr hcheck)) _
      · exact .refl _

/-! ### Commands -/

theorem Ev.registerPresent_keepsHeld (e : Ev) (t : Tag) (c : ClassNo) (x : CollEntry) :
    e.KeepsHeld (e.registerPresent t c x) := by
  unfold Ev.registerPresent
  split
  · exact .refl _
  · exact e.unbindEntry_keepsHeld x .reclass

theorem Ev.postEvicted_keepsHeld (e : Ev) (x : CollEntry) : e.KeepsHeld (e.postEvicted x) := by
  unfold Ev.postEvicted
  split
  · exact e.post_keepsHeld _ _
  · exact .refl _

theorem Ev.registerAbsent_keepsHeld (e : Ev) (t : Tag) (c : ClassNo) : e.KeepsHeld (e.registerAbsent t c).1 := by
  unfold Ev.registerAbsent
  split
  · exact .refl _
  · split
    · next x _ => exact (e.unbindEntry_keepsHeld x .evicted).trans (Ev.postEvicted_keepsHeld _ x)
    · exact .refl _

theorem Ev.doRegister_keepsHeld (e : Ev) (d : List Byte) : e.KeepsHeld (e.doRegister d).1 := by
  unfold Ev.doRegister
  dsimp only
  split
  · exact .refl _
  · split
    · exact (e.registerPresent_keepsHeld _ _ _).trans (Ev.grantFreed_keepsHeld _)
    · exact (e.registerAbsent_keepsHeld _ _).trans (Ev.grantFreed_keepsHeld _)

theorem Ev.doUnregister_keepsHeld (e : Ev) (d : List Byte) : e.KeepsHeld (e.doUnregister d).1 := by
  unfold Ev.doUnregister
  dsimp only
  split
  · exact .refl _
  · next x _ =>
    refine HeldKept.trans ?_ (Ev.grantFreed_keepsHeld _)
    exact e.unbindEntry_keepsHeld x .reclass

theorem Ev.doSetClass_keepsHeld (e : Ev) (d : List Byte) : e.KeepsHeld (e.doSetClass d).1 := by
  unfold Ev.doSetClass
  split <;> exact .refl _

theorem Ev.doSetSerial_keepsHeld (e : Ev) (d : List Byte) : e.KeepsHeld (e.doSetSerial d).1 := by
  unfold Ev.doSetSerial
  dsimp only
  split <;> exact .refl _

theorem Ev.doDrain_keepsHeld (e : Ev) (d : List Byte) : e.KeepsHeld (e.doDrain d).1 := by
  unfold Ev.doDrain
  split
  · exact .refl _
  · next ls _ => exact (e.emptyLanes_keepsHeld ls .drain).trans (Ev.grantFreed_keepsHeld _)

theorem Ev.doFreeze_keepsHeld (e : Ev) : e.KeepsHeld e.doFreeze.1 := by
  unfold Ev.doFreeze
  split <;> exact .refl _

theorem Ev.doResume_keepsHeld (e : Ev) (d : List Byte) : e.KeepsHeld (e.doResume d).1 := by
  unfold Ev.doResume
  split
  · exact .refl _
  · split
    · next n _ hheld => exact e.setFrame_unheld n (Frame.unheld_of_state hheld) (Frame.unheld_of_state (x := .sealed) rfl)
    · exact .refl _

theorem Ev.doDiscard_keepsHeld (e : Ev) (d : List Byte) : e.KeepsHeld (e.doDiscard d).1 := by
  unfold Ev.doDiscard
  split
  · exact .refl _
  · split
    · next hheld => exact Ev.release_keepsHeld (Frame.unheld_of_state hheld) true
    · exact .refl _

theorem Ev.judgeCommand_keepsHeld (e : Ev) (code : Nat) (d : List Byte) :
    e.KeepsHeld (e.judgeCommand code d).1 := by
  unfold Ev.judgeCommand
  split
  · exact .refl _
  · split
    · exact e.doRegister_keepsHeld d
    · exact e.doUnregister_keepsHeld d
    · exact e.doSetClass_keepsHeld d
    · exact .refl _
    · exact .refl _
    · exact e.doSetSerial_keepsHeld d
    · exact .refl _
    · exact .refl _
    · exact e.doDrain_keepsHeld d
    · exact e.doFreeze_keepsHeld
    · exact e.doResume_keepsHeld d
    · exact e.doDiscard_keepsHeld d
    · exact .refl _

theorem Ev.actCommand_keepsHeld (e : Ev) (c : CellNo) (d : List Byte) : e.KeepsHeld (e.actCommand c d).1 := by
  unfold Ev.actCommand
  split
  · exact .refl _
  · exact e.judgeCommand_keepsHeld _ d

/-! ### A write on the ingest link -/

theorem Ev.countStray_keepsHeld (e : Ev) (r : Requester) (addr : UpAddr) : e.KeepsHeld (e.countStray r addr) := by
  obtain ⟨notes, posted, hform⟩ := e.countStray_form r addr
  rw [hform]
  exact .refl _

theorem Ev.actConsumer_keepsHeld (e : Ev) (d : List Byte) : e.KeepsHeld (e.actConsumer d) := by
  unfold Ev.actConsumer
  dsimp only
  split <;> exact .refl _

/-- The event that a verdict brings about, if any, keeps the frames with their lanes. -/
def Verdict.KeepsHeld (s : State) : Verdict → Prop
  | .retry => True
  | .drop e => HeldKept s e.toState
  | .take e _ _ _ _ => HeldKept s e.toState

theorem Ev.dataWrite_keepsHeld (e : Ev) (k : SlotNo) (f : File) (c : ClassNo) (l : LaneNo) (p : Placement) (o : Nat)
    (d : List Byte) : (e.dataWrite k f c l p o d).KeepsHeld e.toState := by
  unfold Ev.dataWrite
  dsimp only
  split
  · exact HeldKept.refl e.toState
  · split
    · exact HeldKept.trans (e.endFile_keepsHeld k _ p .covered) (Ev.sealIfEmpty_keepsHeld _ p.frame)
    · exact HeldKept.refl e.toState

theorem Ev.slotWrite_keepsHeld (e : Ev) (k : SlotNo) (o : Nat) (r : Requester) (addr : UpAddr) (d : List Byte) :
    (e.slotWrite k o r addr d).KeepsHeld e.toState := by
  have hstray : (Verdict.drop (e.countStray r addr)).KeepsHeld e.toState := e.countStray_keepsHeld r addr
  unfold Ev.slotWrite
  split
  · exact hstray
  · split
    · trivial
    · exact hstray
  · split
    · trivial
    · exact hstray
  · split
    · exact e.dataWrite_keepsHeld k _ _ _ _ o d
    · exact hstray

theorem Ev.controlWrite_keepsHeld (e : Ev) (off : Nat) (r : Requester) (addr : UpAddr) (d : List Byte) :
    (e.controlWrite off r addr d).KeepsHeld e.toState := by
  simp only [Ev.controlWrite, Verdict.KeepsHeld]
  split
  · exact e.actCommand_keepsHeld _ d
  · exact e.actConfirm_keepsHeld _ d
  · exact e.actConsumer_keepsHeld d
  · exact e.actRecord_keepsHeld _ r addr _ d
  · exact e.post_keepsHeld _ _
  · exact HeldKept.refl _

theorem Ev.packWrite_keepsHeld (e : Ev) (off : Nat) (r : Requester) (addr : UpAddr) (d : List Byte) :
    (e.packWrite off r addr d).KeepsHeld e.toState := by
  unfold Ev.packWrite
  split
  · exact e.post_keepsHeld _ _
  · split
    · exact HeldKept.refl e.toState
    · exact e.post_keepsHeld _ _

theorem Ev.unclaimedWrite_keepsHeld (e : Ev) (r : Requester) (addr : UpAddr) (d : List Byte) :
    (e.unclaimedWrite r addr d).KeepsHeld e.toState := by
  unfold Ev.unclaimedWrite
  split
  · split
    · exact e.countStray_keepsHeld r addr
    · split
      · exact e.post_keepsHeld _ _
      · exact HeldKept.refl e.toState
  · exact e.countStray_keepsHeld r addr

theorem Ev.activeWrite_keepsHeld (e : Ev) (r : Requester) (addr : UpAddr) (d : List Byte) :
    (e.activeWrite r addr d).KeepsHeld e.toState := by
  unfold Ev.activeWrite
  split
  · exact e.post_keepsHeld _ _
  · split
    · exact e.controlWrite_keepsHeld _ r addr d
    · exact e.slotWrite_keepsHeld _ _ r addr d
    · exact e.packWrite_keepsHeld _ r addr d
    · split
      · exact e.post_keepsHeld _ _
      · exact HeldKept.refl e.toState
    · exact e.unclaimedWrite_keepsHeld r addr d

theorem Ev.judgeWrite_keepsHeld (e : Ev) (r : Requester) (addr : UpAddr) (d : List Byte) :
    (e.judgeWrite r addr d).KeepsHeld e.toState := by
  unfold Ev.judgeWrite
  split
  · trivial
  · split
    · trivial
    · exact e.activeWrite_keepsHeld r addr d
  · split
    · trivial
    · unfold Ev.passiveWrite
      split <;> exact HeldKept.refl e.toState

theorem State.settleWrite_keepsHeld (s : State) (r : Requester) (addr : UpAddr) {v : Verdict} (hv : v.KeepsHeld s) :
    HeldKept s (s.settleWrite r addr v) := by
  unfold State.settleWrite
  split
  · exact .refl _
  · refine HeldKept.trans ?_ (Ev.finish_keepsHeld _)
    exact hv
  · split
    · refine HeldKept.trans ?_ (Ev.finish_keepsHeld _)
      exact hv
    · exact .refl _

theorem State.takeWrite_keepsHeld (s : State) (r : Requester) (addr : UpAddr) (d : List Byte) :
    HeldKept s (s.takeWrite r addr d) := by
  unfold State.takeWrite
  split
  · exact .refl _
  · exact s.settleWrite_keepsHeld r addr (Ev.judgeWrite_keepsHeld (Ev.start s.clearOut) r addr d)

/-! ### Reads and the store port -/

theorem Ev.sendRead_keepsHeld (e : Ev) (r : Requester) : e.KeepsHeld (e.sendRead r) := by
  unfold Ev.sendRead
  split
  · split <;> exact .refl _
  · exact .refl _

theorem Ev.sendNext_keepsHeld (e : Ev) : e.KeepsHeld e.sendNext := by
  have hqueued (q : StoreQueue) : e.KeepsHeld (e.setQueue q) := .refl _
  have hposted (q : StoreQueue) (p : Poster) (b : NoticeBody) : e.KeepsHeld ((e.setQueue q).post p b) :=
    (hqueued q).trans (Ev.post_keepsHeld _ p b)
  unfold Ev.sendNext
  split
  · exact .refl _
  · dsimp only
    split
    · refine HeldKept.trans ?_ (Ev.sendRead_keepsHeld _ _)
      split
      · split
        · exact hposted _ _ _
        · exact hqueued _
      · exact .refl _
    · split
      · split
        · exact hposted _ _ _
        · exact hqueued _
      · exact .refl _

theorem State.takeRead_keepsHeld (s : State) (r : Requester) (addr : UpAddr) (n : Nat) :
    HeldKept s (s.takeRead r addr n) := by
  unfold State.takeRead
  split
  · exact .refl _
  · split
    · exact .refl _
    · exact .refl _
    · exact .refl _
    · next q _ =>
      exact (Ev.sendRead_keepsHeld ((Ev.start s.clearOut).setAwaiting r (some (.held q))) r).trans
        (Ev.finish_keepsHeld _)

/-- The FAULT flag of a frame is neither its state nor its lane (R54, R117). -/
theorem Ev.flagFault_keepsHeld (e : Ev) (n : FrameNo) : e.KeepsHeld (e.flagFault n) := by
  unfold Ev.flagFault
  split
  · exact .refl _
  · exact .refl _
  · exact e.setFrame_sameHold n

theorem Ev.postFault_keepsHeld (e : Ev) (w : FaultedWrite) (addr : Nat) : e.KeepsHeld (e.postFault w addr) :=
  e.post_keepsHeld _ _

theorem Ev.flagAndPost_keepsHeld (e : Ev) (n : FrameNo) (w : FaultedWrite) (addr : Nat) :
    e.KeepsHeld ((e.flagFault n).postFault w addr) :=
  (e.flagFault_keepsHeld n).trans (Ev.postFault_keepsHeld _ w addr)

theorem Ev.markFileFault_keepsHeld (e : Ev) (k : SlotNo) (n : FrameNo) (entry : Nat) :
    e.KeepsHeld (e.markFileFault k n entry) := by
  unfold Ev.markFileFault
  split
  · split <;> exact .refl _
  · exact .refl _

theorem Ev.dataFault_keepsHeld (e : Ev) (r : Requester) (k : SlotNo) (n : FrameNo) (entry addr len : Nat) :
    e.KeepsHeld (e.dataFault r k n entry addr len) :=
  (e.markFileFault_keepsHeld k n entry).trans (Ev.flagAndPost_keepsHeld _ n _ addr)

theorem Ev.upstreamFault_keepsHeld (e : Ev) (r : Requester) (origin : UpOrigin) (x : Entry) :
    e.KeepsHeld (e.upstreamFault r origin x) := by
  cases origin with
  | slotData k n entry => exact e.dataFault_keepsHeld r k n entry _ _
  | passive => exact .refl _
  | control | pack _ | pass _ | unclaimed => exact e.postFault_keepsHeld _ _

theorem Ev.holdFaulted_keepsHeld {e : Ev} {n : FrameNo} (h : (e.frame n).state = .sealing) :
    e.KeepsHeld (e.holdFaulted n) :=
  (e.setFrame_unheld n (Frame.unheld_of_state h) (Frame.unheld_of_state (x := .held) rfl)).trans
    (Ev.post_keepsHeld _ _ _)

theorem Ev.sealDone_keepsHeld (e : Ev) (n : FrameNo) : e.KeepsHeld (e.sealDone n) := by
  unfold Ev.sealDone
  split
  · next hsealing =>
    split
    · exact Ev.holdFaulted_keepsHeld hsealing
    · exact (e.setFrame_unheld n (Frame.unheld_of_state hsealing) (Frame.unheld_of_state (x := .sealed) rfl)).trans
        (Ev.post_keepsHeld _ _ _)
  · exact .refl _

theorem Ev.sealFault_keepsHeld (e : Ev) (n : FrameNo) (serial addr : Nat) :
    e.KeepsHeld (e.sealFault n serial addr) := by
  unfold Ev.sealFault
  dsimp only
  split
  · next hsealing => exact (e.flagAndPost_keepsHeld n _ addr).trans (Ev.holdFaulted_keepsHeld hsealing)
  · exact e.flagAndPost_keepsHeld n _ addr

/-! ### The profile, the tick and the link reset -/

theorem Ev.judgeProfile_keepsHeld (e : Ev) (d : List Byte) : e.KeepsHeld (e.judgeProfile d) := by
  simp only [Ev.judgeProfile]
  split
  · exact .refl _
  · split
    · exact .refl _
    · have htaken : e.KeepsHeld (e.takeProfile (parseProfile d)) := .refl _
      unfold Ev.enterActive
      refine HeldKept.trans ?_ (Ev.post_keepsHeld _ _ _)
      exact htaken

theorem Ev.readTimeout_keepsHeld (e : Ev) : e.KeepsHeld e.readTimeout := by
  unfold Ev.readTimeout
  split <;> exact .refl _

theorem Ev.expireQuiet_keepsHeld (e : Ev) (n : FrameNo) : e.KeepsHeld (e.expireQuiet n) := by
  unfold Ev.expireQuiet
  split
  · exact e.closeFrame_keepsHeld n .quiet
  · exact .refl _

theorem Ev.expireAge_keepsHeld (e : Ev) (n : FrameNo) : e.KeepsHeld (e.expireAge n) := by
  unfold Ev.expireAge
  split
  · exact e.closeFrame_keepsHeld n .age
  · exact .refl _

theorem Ev.forceEnd_keepsHeld (n : FrameNo) (e : Ev) (k : SlotNo) : e.KeepsHeld (Ev.forceEnd n e k) := by
  unfold Ev.forceEnd
  split
  · split
    · exact e.endFileHeld_keepsHeld k .forced
    · exact .refl _
  · exact .refl _

theorem Ev.expireStraggler_keepsHeld (e : Ev) (n : FrameNo) : e.KeepsHeld (e.expireStraggler n) := by
  unfold Ev.expireStraggler
  split
  · exact ((e.setFrame_sameHold n).trans (.foldl (Ev.forceEnd_keepsHeld n) _ _)).trans
      (Ev.sealIfEmpty_keepsHeld _ n)
  · exact .refl _

theorem Ev.testFrame_keepsHeld (e : Ev) (n : FrameNo) : e.KeepsHeld (e.testFrame n) := by
  unfold Ev.testFrame
  split
  · split
    · exact e.expireAge_keepsHeld n
    · exact e.expireQuiet_keepsHeld n
  · exact e.expireStraggler_keepsHeld n
  · exact .refl _

theorem Ev.testTimers_keepsHeld (e : Ev) : e.KeepsHeld e.testTimers := by
  unfold Ev.testTimers
  split
  · exact HeldKept.foldl Ev.testFrame_keepsHeld _ { e with inOrder := true }
  · exact .refl _

theorem Ev.resetSlot_keepsHeld (e : Ev) (k : SlotNo) : e.KeepsHeld (e.resetSlot k) := by
  unfold Ev.resetSlot
  split
  · exact e.endFileHeld_keepsHeld k .reset
  · unfold Ev.resetQueued
    split <;> exact .refl _

theorem Ev.resetSlots_keepsHeld (e : Ev) : e.KeepsHeld e.resetSlots := by
  have hqueues (e' : Ev) : e'.KeepsHeld ((e'.setLookupQ []).setWaitQ []) := .refl _
  unfold Ev.resetSlots
  exact (HeldKept.foldl Ev.resetSlot_keepsHeld (List.finRange 512) e).trans (hqueues _)

/-- The lanes hold no frame after their link-reset action (R87). -/
theorem clearedLanes_empty (l : LaneNo) :
    (clearedLanes.get l).openFrame = none ∧ (clearedLanes.get l).reserved = none := by
  have hclear : clearedLanes = put (Vector.replicate 32 Lane.unbound) 0 { Lane.unbound with binding := .mixed } := rfl
  rw [hclear, get_put]
  split
  · exact ⟨rfl, rfl⟩
  · simp [Vector.get, Lane.unbound]

/-- What a closing leaves a lane as its OPEN frame is what it had, and not the frame closed. -/
theorem Ev.toClosing_leaves {e : Ev} (hheld : e.Held) {n m : FrameNo} {l : LaneNo} {reason : SealReason}
    (h : ((e.toClosing n reason).lane l).openFrame = some m) : (e.lane l).openFrame = some m ∧ m ≠ n := by
  by_cases hopen : (e.frame n).state = .opened
  · have hholder := Ev.Held.holdsOpen hheld hopen
    rw [Ev.toClosing_held hholder, Ev.lane_setLane] at h
    split at h
    · cases h
    · next hother =>
      refine ⟨h, fun hmn => hother ?_⟩
      have hm := (hheld.openIs l m h).2
      rw [hmn] at hm
      exact hm
  · rw [Ev.toClosing_not_open hopen] at h
    exact ⟨h, fun hmn => hopen (hmn ▸ (hheld.openIs l m h).1)⟩

theorem Ev.foldl_toClosing_leaves {reason : SealReason} {m : FrameNo} {l : LaneNo} (ns : List FrameNo) {e : Ev}
    (hheld : e.Held) (h : ((ns.foldl (fun e n => e.toClosing n reason) e).lane l).openFrame = some m) :
    (e.lane l).openFrame = some m ∧ m ∉ ns := by
  induction ns generalizing e with
  | nil => exact ⟨h, List.not_mem_nil⟩
  | cons n ns ih =>
    obtain ⟨hfirst, hrest⟩ := ih (e.toClosing_keepsHeld n reason hheld) h
    obtain ⟨hleft, hmn⟩ := Ev.toClosing_leaves hheld hfirst
    exact ⟨hleft, List.not_mem_cons_of_ne_of_not_mem hmn hrest⟩

theorem Ev.foldl_sealIfEmpty_lanes (ns : List FrameNo) (e : Ev) : (ns.foldl Ev.sealIfEmpty e).lanes = e.lanes :=
  foldl_keeps (fun a b : Ev => b.lanes = a.lanes) (fun _ => rfl) (fun h h' => h'.trans h) _ Ev.sealIfEmpty_lanes ns e

/-- Lanes closed together hold no OPEN frame (R87, R152). -/
theorem Ev.closeLanes_openFrame {e : Ev} (hheld : e.Held) {ls : List LaneNo} {l : LaneNo} (hl : l ∈ ls)
    (reason : SealReason) : ((e.closeLanes ls reason).lane l).openFrame = none := by
  by_contra hsome
  obtain ⟨m, hm⟩ := Option.ne_none_iff_exists'.mp hsome
  unfold Ev.closeLanes at hm
  dsimp only at hm
  rw [Ev.lane, Ev.foldl_sealIfEmpty_lanes] at hm
  obtain ⟨hhad, hnot⟩ := Ev.foldl_toClosing_leaves _ hheld hm
  exact hnot (List.mem_filterMap.mpr ⟨l, hl, hhad⟩)

/-- A RESERVED frame returned to FREE leaves the lane none, and every other lane what it holds (R100). -/
theorem Ev.returnReserved_lane (e : Ev) (l m : LaneNo) :
    (e.returnReserved l).lane m = if m = l then { e.lane l with reserved := none } else e.lane m := by
  unfold Ev.returnReserved
  split
  · show (e.setLane l { e.lane l with reserved := none }).lane m = _
    rw [Ev.lane_setLane]
    simp only [eq_comm]
  · next hnone =>
    split
    · next h => rw [h, ← hnone]
    · rfl

theorem Ev.foldl_returnReserved_lane (ls : List LaneNo) (e : Ev) (m : LaneNo) :
    (ls.foldl Ev.returnReserved e).lane m = if m ∈ ls then { e.lane m with reserved := none } else e.lane m := by
  induction ls generalizing e with
  | nil => rfl
  | cons l ls ih =>
    rw [List.foldl_cons, ih, Ev.returnReserved_lane]
    by_cases hm : m = l
    · subst hm
      simp
    · simp [hm]

/-- The lanes are cleared when all their frames have gone, so that none of them is lost (R87). -/
theorem Ev.resetLanes_keepsHeld (e : Ev) : e.KeepsHeld e.resetLanes := by
  intro hheld
  have hall (l : LaneNo) :
      (((List.finRange 32).foldl Ev.returnReserved (e.closeLanes (List.finRange 32) .reset)).lane l).openFrame = none
        ∧ (((List.finRange 32).foldl Ev.returnReserved (e.closeLanes (List.finRange 32) .reset)).lane l).reserved
          = none := by
    rw [Ev.foldl_returnReserved_lane, if_pos (List.mem_finRange l)]
    exact ⟨Ev.closeLanes_openFrame hheld (List.mem_finRange l) .reset, rfl⟩
  have hemptied := e.emptyLanes_keepsHeld (List.finRange 32) .reset hheld
  unfold Ev.resetLanes
  generalize (List.finRange 32).foldl Ev.returnReserved _ = e' at hall hemptied ⊢
  obtain ⟨_, _, hopenHas, hreservedHas⟩ := hemptied
  constructor
  · intro l n h
    rw [(clearedLanes_empty l).1] at h
    cases h
  · intro l n h
    rw [(clearedLanes_empty l).2] at h
    cases h
  · intro n h
    exact absurd ((hall _).1.symm.trans (hopenHas n h)) (by simp)
  · intro n h
    exact absurd ((hall _).2.symm.trans (hreservedHas n h)) (by simp)

theorem State.resetAction_keepsHeld (s : State) (a : ResetAction) : HeldKept s (s.resetAction a) := by
  refine HeldKept.trans ?_ (Ev.finish_keepsHeld _)
  cases a with
  | slots => exact (Ev.start s).resetSlots_keepsHeld
  | lanes => exact (Ev.start s).resetLanes_keepsHeld
  | description => exact .refl s
  | notices => exact (Ev.start s).post_keepsHeld _ _

/-! ### Commands by their outcome -/

/-- The next state, if there is one, keeps the frames with their lanes. -/
def OutcomeKeepsHeld (s : State) : Host.Outcome State Fault Refusal → Prop
  | .next t => HeldKept s t
  | .fault _ => True
  | .refused _ => True

theorem State.run_keepsHeld (s : State) {f : Ev → Ev} (hf : ∀ e : Ev, e.KeepsHeld (f e)) :
    OutcomeKeepsHeld s (s.run f) :=
  HeldKept.trans (hf (Ev.start s.clearOut)) (Ev.finish_keepsHeld _)

theorem State.ignore_keepsHeld (s : State) : OutcomeKeepsHeld s s.ignore := HeldKept.refl s

/-- A command with an effect in some states alone (log 23). -/
theorem State.runIf_keepsHeld (s : State) (c : Prop) [Decidable c]
    {f : Ev → Ev} (hf : ∀ e : Ev, e.KeepsHeld (f e)) :
    OutcomeKeepsHeld s (if c then s.run f else s.ignore) := by
  split
  · exact s.run_keepsHeld hf
  · exact s.ignore_keepsHeld

theorem State.answerWrite_keepsHeld (s : State) {f : Entry → Ev → Option Ev}
    (hf : ∀ x e e', f x e = some e' → e.KeepsHeld e') : OutcomeKeepsHeld s (s.answerWrite f) := by
  unfold State.answerWrite
  split
  · trivial
  · dsimp only
    split
    · next hanswer =>
      refine HeldKept.trans ?_ (Ev.finish_keepsHeld _)
      exact hf _ _ _ hanswer
    · trivial

theorem execOwnWriteDone_keepsHeld (s : State) : OutcomeKeepsHeld s (execOwnWriteDone s) := by
  refine s.answerWrite_keepsHeld (fun x e e' hanswer => ?_)
  cases horigin : x.origin with
  | upstream _ _ _ => rw [horigin] at hanswer; cases hanswer
  | own kind =>
    rw [horigin] at hanswer
    cases kind with
    | statusWord _ | confirmStatus _ | commandStatus _ | description => cases hanswer; exact .refl _
    | openHeader _ _ | sealHeader _ _ | indexEntry _ _ _ | notice | clearing _ | passiveRecord => cases hanswer

theorem execReadAnswer_keepsHeld (a : ReadAnswer) (s : State) : OutcomeKeepsHeld s (execReadAnswer a s) := by
  unfold execReadAnswer
  split
  · trivial
  · split
    · split
      · exact s.run_keepsHeld (fun e => .refl e.toState)
      · trivial
    · exact s.run_keepsHeld (fun e => .refl e.toState)

theorem execProbeAnswer_keepsHeld (a : ProbeAnswer) (s : State) : OutcomeKeepsHeld s (execProbeAnswer a s) := by
  unfold execProbeAnswer
  split
  · trivial
  · next x rest _ =>
    split
    · trivial
    · refine s.run_keepsHeld (fun e => ?_)
      dsimp only
      split
      · exact (Ev.searchStep_keepsHeld (e.setQueue { e.queue with probes := rest }) _ a).trans
          (Ev.serveAll_keepsHeld _)
      · exact .refl _

theorem execLinkReset_keepsHeld (s : State) : OutcomeKeepsHeld s (execLinkReset s) := by
  unfold execLinkReset
  split
  · exact s.ignore_keepsHeld
  · split
    · exact foldl_keeps HeldKept HeldKept.refl HeldKept.trans State.resetAction State.resetAction_keepsHeld _
        { s.clearOut.discardRequests with port := { s.clearOut.discardRequests.port with linkReset := true } }
    · exact HeldKept.refl s

/-- After power-on reset no lane holds a frame, and every frame is FREE (R82, R89). -/
theorem execPowerOnReset_keepsHeld (straps : Fin 4) (s : State) :
    OutcomeKeepsHeld s (execPowerOnReset straps s) := by
  have hlanes : State.reset.lanes.table = clearedLanes := rfl
  have hframes (n : FrameNo) : State.reset.frames.table.get n = Frame.free := by simp [State.reset, Vector.get]
  intro _
  constructor
  · intro l n h
    rw [hlanes, (clearedLanes_empty l).1] at h
    cases h
  · intro l n h
    rw [hlanes, (clearedLanes_empty l).2] at h
    cases h
  · intro n h
    rw [hframes n] at h
    cases h
  · intro n h
    rw [hframes n] at h
    cases h

/-- Every command keeps the frames with the lanes that hold them. -/
theorem exec_keepsHeld (i : Instr) (s : State) : OutcomeKeepsHeld s (exec i s) := by
  cases i with
  | powerOnReset straps => exact execPowerOnReset_keepsHeld straps s
  | profileReadDone bytes => exact s.runIf_keepsHeld _ (fun e => e.judgeProfile_keepsHeld _)
  | profileReadError => exact s.runIf_keepsHeld _ (fun e => .refl e.toState)
  | profileReadTimeout => exact s.runIf_keepsHeld _ Ev.readTimeout_keepsHeld
  | linkReset => exact execLinkReset_keepsHeld s
  | upstreamWrite r addr d | openFile r addr d | closeFile r addr d | abandonFile r addr d | dataWrite r addr d
  | register r addr d | unregister r addr d | setClass r addr d | setPattern r addr d | setTable r addr d
  | setSerial r addr d | setTime r addr d | setAttention r addr d | drain r addr d | freeze r addr d | resume r addr d
  | discard r addr d | confirm r addr d | consumerIndex r addr d | commandCodeRefused r addr d =>
    exact s.takeWrite_keepsHeld r addr d
  | upstreamRead r addr n | slotRead r addr n => exact s.takeRead_keepsHeld r addr n
  | writeSend =>
    show OutcomeKeepsHeld s (execWriteSend s)
    unfold execWriteSend
    split
    · exact s.ignore_keepsHeld
    · exact s.run_keepsHeld Ev.sendNext_keepsHeld
  | storeWriteAnswer a =>
    unfold Machine.exec
    refine s.answerWrite_keepsHeld (fun x e e' hanswer => ?_)
    split at hanswer
    · cases hanswer; exact .refl _
    · cases hanswer; exact e.upstreamFault_keepsHeld _ _ x
    · cases hanswer
  | dataWriteFault =>
    unfold Machine.exec
    refine s.answerWrite_keepsHeld (fun x e e' hanswer => ?_)
    split at hanswer
    · cases hanswer; exact e.dataFault_keepsHeld _ _ _ _ _ _
    · cases hanswer
  | sealHeaderDone =>
    unfold Machine.exec
    refine s.answerWrite_keepsHeld (fun x e e' hanswer => ?_)
    split at hanswer
    · cases hanswer; exact e.sealDone_keepsHeld _
    · cases hanswer
  | sealHeaderFault =>
    unfold Machine.exec
    refine s.answerWrite_keepsHeld (fun x e e' hanswer => ?_)
    split at hanswer
    · cases hanswer; exact e.sealFault_keepsHeld _ _ _
    · cases hanswer
  | statusWordFault | confirmStatusFault | commandStatusFault | descriptionRecordFault =>
    unfold Machine.exec
    refine s.answerWrite_keepsHeld (fun x e e' hanswer => ?_)
    split at hanswer
    · cases hanswer; exact e.postFault_keepsHeld _ _
    · cases hanswer
  | noticeWriteDone | noticeWriteFault | passiveRecordAnswer a =>
    unfold Machine.exec
    refine s.answerWrite_keepsHeld (fun x e e' hanswer => ?_)
    split at hanswer
    · cases hanswer; exact .refl _
    · cases hanswer
  | openHeaderAnswer a | indexEntryAnswer a =>
    unfold Machine.exec
    refine s.answerWrite_keepsHeld (fun x e e' hanswer => ?_)
    split at hanswer
    · cases hanswer; exact .refl _
    · cases hanswer; exact e.flagAndPost_keepsHeld _ _ _
    · cases hanswer
  | clearingWriteAnswer a =>
    unfold Machine.exec
    refine s.answerWrite_keepsHeld (fun x e e' hanswer => ?_)
    split at hanswer
    · cases hanswer; exact .refl _
    · cases hanswer; exact .refl _
    · cases hanswer
  | ownWriteDone => exact execOwnWriteDone_keepsHeld s
  | readAnswer a => exact execReadAnswer_keepsHeld a s
  | probeAnswer a => exact execProbeAnswer_keepsHeld a s
  | tick =>
    exact s.run_keepsHeld (fun e => (Ev.readTimeout_keepsHeld e.countTick).trans (Ev.testTimers_keepsHeld _))
  | quietExpiry n => exact s.runIf_keepsHeld _ (fun e => e.expireQuiet_keepsHeld n)
  | ageExpiry n => exact s.runIf_keepsHeld _ (fun e => e.expireAge_keepsHeld n)
  | stragglerExpiry n =>
    exact s.runIf_keepsHeld _ (fun e => Ev.expireStraggler_keepsHeld { e with inOrder := true } n)

theorem step_keepsHeld {s t : State} (hstep : step s = .next t) : HeldKept s t := by
  unfold Machine.step at hstep
  split at hstep
  · cases hstep
    exact .refl _
  · next c rest _ =>
    have hexec := exec_keepsHeld c { s with pending := rest }
    rwa [hstep] at hexec

end Sys2Proof.Machine

namespace Sys2Proof.Safety

open Sys2Proof.Machine

/-- Settles O57: every action of every command leaves each OPEN and each RESERVED frame with its lane. -/
theorem everyStepKeepsFramesHeldByOneLane : Obligations.EveryStepKeepsFramesHeldByOneLane := by
  unfold Obligations.EveryStepKeepsFramesHeldByOneLane
  intro s t hheld hstep
  exact (heldOk_iff t).mpr (step_keepsHeld hstep ((heldOk_iff s).mp hheld))

end Sys2Proof.Safety
end

section
/-! SUPPORT. A command cell write taken (R140 to R142): its way to the command unit, its status word, the description record
written again with it, and the obligations on SET CLASS, SET PATTERN and SET TABLE, and on REGISTER and UNREGISTER where no
lane is affected. -/

namespace Sys2Proof.Machine

open Sys2Proof.Safety

/-! ### The notices of an event -/

theorem Ev.post_active {e : Ev} (h : e.loader.state = .active) (p : Poster) (b : NoticeBody) :
    e.post p b = { e with posted := e.posted ++ [(p, { time := e.cmd.bridgeTime, body := b })] } := if_pos h

/-- The notices of an event that R102 adds nothing to, whatever reservations it makes. -/
theorem Ev.finish_notes_of_sameWait {e : Ev} (h : e.sameWait) :
    e.finish.notes = (((orderNotices (Config.orderChoice e.choice) e.posted).foldl NoticeUnit.enqueue e.notes).ringWrite
      e.decoder.control.store).1 := by
  have hreserve := e.reserveAll_frame
  have hsame : e.reserveAll.sameWait := by
    rw [Ev.sameWait, hreserve.waitWasEmpty, hreserve.waitQ]
    exact h
  show e.reserveAll.waitNotice.settle.notes = _
  rw [Ev.waitNotice_same hsame]
  show (((orderNotices (Config.orderChoice e.reserveAll.choice) e.reserveAll.posted).foldl NoticeUnit.enqueue
    e.reserveAll.notes).ringWrite e.reserveAll.decoder.control.store).1 = _
  rw [hreserve.choice, hreserve.posted, hreserve.notes, hreserve.decoder]

/-- The one notice of an event is posted (R158). -/
theorem Ev.finish_posted {s : State} {e : Ev} {p : Poster} {b : NoticeBody} (h : e.sameWait)
    (hnotes : e.notes = s.notes) (hposted : e.posted = [(p, { time := e.cmd.bridgeTime, body := b })]) :
    Posted s e.finish [b] := by
  rw [Posted, PostedFrom, Ev.finish_notes_of_sameWait h, hposted, hnotes, Ev.finish_cmd, Ev.finish_decoder]
  rfl

/-- An event that posts nothing leaves the notices, whatever reservations it makes. -/
theorem Ev.finish_keepsNotices {s : State} {e : Ev} (h : e.sameWait) (hnotes : e.notes = s.notes)
    (hposted : e.posted = []) : KeepsNotices s e.finish := by
  have hring : e.finish.notes = (s.notes.ringWrite e.decoder.control.store).1 := by
    rw [Ev.finish_notes_of_sameWait h, hposted, hnotes]
    rfl
  obtain ⟨writing, lost, hwrite⟩ := NoticeUnit.ringWrite_keeps s.notes e.decoder.control.store
  simp [KeepsNotices, hring, hwrite]

/-! ### From a command cell to the command unit -/

/-- A whole command cell is a command (R6, R140). -/
theorem controlForm_command (c : CellNo) : controlForm (0x0400 + c.val * 64) 64 = .command c := by
  have hc := c.isLt
  have hcell : (0x0400 + c.val * 64 - 0x0400) / 64 % 16 = c.val := by omega
  have command : rangesMeet (0x0400 + c.val * 64) 64 0x0400 0x400 = true := by
    simp only [rangesMeet, Bool.and_eq_true, decide_eq_true_eq]; omega
  have aligned : (0x0400 + c.val * 64) % 64 = 0 ∧ 0x0400 ≤ 0x0400 + c.val * 64 := by omega
  simp only [controlForm, command, if_true, true_and, if_pos aligned, hcell]

/-- The status word that answers the command in a cell (R142). -/
def cellStatus (s : State) (c : CellNo) (d : List Byte) (res : CmdResult) : OwnWrite :=
  s.commandStatusWrite c (BitVec.ofNat 8 (field d 1 1)) (BitVec.ofNat 8 (field d 0 1)) res

/-- The queue entry of a command cell write (R11). -/
def cellEntry (s : State) (r : Requester) (addr : UpAddr) (d : List Byte) (c : CellNo) : Entry :=
  upstreamEntry r .control addr (s.decoder.control.store + (0x0400 + c.val * 64)) d

/-- A command cell write with room is taken with what its command does and its status word (R12, R140). -/
theorem takeWrite_command {s : State} {r : Requester} {addr : UpAddr} {d : List Byte} {c : CellNo} {code : Nat}
    (due : CommandDue s r addr d c code) (hcode : code ≠ 0) {e : Ev} {res : CmdResult}
    (hjudge : (Ev.start s.clearOut).judgeCommand code d = (e, res)) :
    s.takeWrite r addr d = (e.acceptWrite r (cellEntry s r addr d c) [cellStatus e.toState c d res]).finish := by
  obtain ⟨⟨hears, hsize, hplace⟩, hlen, hroom, hfield⟩ := due
  have hact : (Ev.start s.clearOut).actCommand c d = (e, [cellStatus e.toState c d res]) := by
    have hrecord : recordCode d = code := hfield
    unfold Ev.actCommand
    rw [hrecord, if_neg hcode, hjudge]
    rw [cellStatus, hfield]
    rfl
  have hwrite : (Ev.start s.clearOut).activeWrite r addr d
      = .take e .control (s.decoder.control.store + (0x0400 + c.val * 64)) d [cellStatus e.toState c d res] := by
    rw [Ev.activeWrite, malformed_of_wellSized hsize]
    simp [hplace, Ev.controlWrite, hlen, controlForm_command, hact, State.controlAddr]
  rw [takeWrite_of_hears hears, hwrite, settleWrite_take hroom]
  rfl

section
variable {e : Ev} (h : e.cmd.frozen = false) (d : List Byte)
include h

/-! The commands that freezing refuses, while the part is not frozen (R141, R143). -/

theorem judgeCommand_register : e.judgeCommand 1 d = e.doRegister d := by simp [Ev.judgeCommand, h]
theorem judgeCommand_unregister : e.judgeCommand 2 d = e.doUnregister d := by simp [Ev.judgeCommand, h]
theorem judgeCommand_setClass : e.judgeCommand 3 d = e.doSetClass d := by simp [Ev.judgeCommand, h]
theorem judgeCommand_setPattern : e.judgeCommand 4 d = e.doSetPattern d := by simp [Ev.judgeCommand, h]
theorem judgeCommand_setTable : e.judgeCommand 5 d = e.doSetTable d := by simp [Ev.judgeCommand, h]

end

/-! ### What a command leaves as it is -/

/-- What an event that began in state `s` and puts nothing on a port leaves: the path, the store queue, the outputs. -/
structure Ev.KeepsLink (s : State) (e : Ev) : Prop where
  loader : e.loader = s.loader
  decoder : e.decoder = s.decoder
  port : e.port = s.port
  pending : e.pending = s.pending
  queue : e.queue = s.queue
  linkOut : e.linkOut = []
  storeOut : e.storeOut = []

/-- A command that makes no reservation is taken with its status word, and leaves what its event has made (R140, R142). -/
theorem Ev.accept_commanded {s : State} {e : Ev} (hlink : e.KeepsLink s) (h : e.reservesNone) (r : Requester)
    (addr : UpAddr) (d : List Byte) (c : CellNo) (res : CmdResult) {t : State}
    (ht : t = (e.acceptWrite r (cellEntry s r addr d c) [cellStatus e.toState c d res]).finish) :
    Commanded s t r addr d c res.status res.result ∧ e.LeftIn t := by
  subst ht
  have hleft := Ev.accept_leftIn h r (cellEntry s r addr d c) [cellStatus e.toState c d res]
  have htook := Ev.accept_took h hlink.queue hlink.linkOut hlink.storeOut r (cellEntry s r addr d c)
    [cellStatus e.toState c d res]
  generalize (e.acceptWrite r (cellEntry s r addr d c) [cellStatus e.toState c d res]).finish = t at hleft htook ⊢
  have hstatus : cellStatus t c d res = cellStatus e.toState c d res := by
    simp only [cellStatus, State.commandStatusWrite, State.controlAddr, hleft.decoder, hleft.cmd]
  rw [← hstatus] at htook
  exact ⟨⟨⟨hleft.loader.trans hlink.loader, hleft.decoder.trans hlink.decoder, hleft.port.trans hlink.port,
    hleft.pending.trans hlink.pending⟩, htook⟩, hleft⟩

/-- The command a cell holds, carried out in an event that makes no reservation and posts nothing. -/
theorem takeWrite_commanded {s : State} {r : Requester} {addr : UpAddr} {d : List Byte} {c : CellNo} {code : Nat}
    (due : CommandDue s r addr d c code) (hcode : code ≠ 0) {e : Ev} {res : CmdResult}
    (hjudge : (Ev.start s.clearOut).judgeCommand code d = (e, res)) (hlink : e.KeepsLink s) (hquiet : e.Quiet)
    (hnotes : e.notes = s.notes) :
    Commanded s (s.takeWrite r addr d) r addr d c res.status res.result ∧ e.LeftIn (s.takeWrite r addr d)
      ∧ KeepsNotices s (s.takeWrite r addr d) ∧ ∀ w ∈ e.made, Made (s.takeWrite r addr d) w := by
  have htake := takeWrite_command due hcode hjudge
  obtain ⟨hcommanded, hleft⟩ := Ev.accept_commanded hlink hquiet.reservesNone r addr d c res htake
  refine ⟨hcommanded, hleft, ?_⟩
  rw [htake]
  exact ⟨(hquiet.accept r _ _).keepsNotices hnotes, fun w hw => Ev.finish_made hw⟩

/-! ### The description record -/

/-- The description record is made of values that the end of the event keeps (R155). -/
theorem Ev.LeftIn.descriptionBytes {e : Ev} {t : State} (h : e.LeftIn t) (n : BitVec 32) :
    t.descriptionBytes n = e.descriptionBytes n := by
  simp only [State.descriptionBytes, h.loader, h.cmd, h.frames, h.decoder, h.lanes, h.copy, h.coll]

/-- The description record written again in an event is made, or held, at its end (R155, R156). -/
theorem Ev.described {s : State} {e : Ev} {t : State} (hleft : e.rewriteDescription.LeftIn t)
    (hcount : e.cmd.rewrites = s.cmd.rewrites)
    (hmade : ∀ w ∈ e.rewriteDescription.made, Made t w) : Described s t := by
  have hrewrites : t.cmd.rewrites = e.cmd.rewrites + 1 := by rw [hleft.cmd]; rfl
  refine ⟨by rw [hrewrites, hcount], ?_⟩
  rw [hleft.descriptionBytes, hleft.decoder, hrewrites]
  exact hmade _ (List.mem_append_right _ List.mem_cons_self)

end Sys2Proof.Machine

namespace Sys2Proof.Safety

open Sys2Proof.Machine

/-- A command refused in the event's beginning changes nothing (R142). -/
theorem command_refused {s : State} {r : Requester} {addr : UpAddr} {d : List Byte} {c : CellNo} {code : Nat}
    (due : CommandDue s r addr d c code) (hcode : code ≠ 0) {res : CmdResult}
    (hjudge : (Ev.start s.clearOut).judgeCommand code d = (Ev.start s.clearOut, res)) :
    Commanded s (s.takeWrite r addr d) r addr d c res.status res.result ∧ KeepsPacking s (s.takeWrite r addr d)
      ∧ (s.takeWrite r addr d).cmd = s.cmd ∧ KeepsNotices s (s.takeWrite r addr d) := by
  obtain ⟨hcommanded, hleft, hnotes, _⟩ :=
    takeWrite_commanded due hcode hjudge ⟨rfl, rfl, rfl, rfl, rfl, rfl, rfl⟩ (Ev.start_quiet s.clearOut) rfl
  exact ⟨hcommanded, ⟨hleft.slots, hleft.coll, hleft.lanes, hleft.frames, hleft.copy⟩, hleft.cmd, hnotes⟩

/-! ### Classes, pattern, table -/

/-- The clamped mark is clear exactly when every value is held as written (R145). -/
theorem bit_clampedMark_eq_zero (c : ClassRec) (d : List Byte) (hown : c.ownLane = true ↔ field d 9 1 ≠ 0) :
    bit (clampedMark c d) = 0 ↔ field d 9 1 ≤ 1 ∧ field d 10 2 = c.params.target ∧ field d 12 2 = c.params.files
      ∧ field d 14 2 = c.params.align ∧ field d 20 1 = c.params.copies := by
  have hmark : bit (clampedMark c d) = 0 ↔ clampedMark c d = false := by
    cases clampedMark c d <;> decide
  have hlane : field d 9 1 = bit c.ownLane ↔ field d 9 1 ≤ 1 := by
    cases hc : c.ownLane <;> simp only [hc, bit] at hown ⊢ <;> grind
  rw [hmark, ← hlane]
  simp [clampedMark, and_assoc]

theorem bit_le_one (b : Bool) : bit b ≤ 1 := by cases b <;> decide

/-- The event of a SET CLASS that replaces class `k` (R145). -/
def classSet (s : State) (k : ClassNo) (d : List Byte) : Ev :=
  { Ev.start s.clearOut with coll := { s.coll with classes := put s.coll.classes k (cellClass s.frames.exp d) } }

/-- Settles O32: the class is the cell's, brought into range. -/
theorem setClassClampsAndReplaces : Obligations.SetClassClampsAndReplaces := by
  unfold Obligations.SetClassClampsAndReplaces
  intro s r addr d cell due hfrozen
  have hjudge := judgeCommand_setClass (e := Ev.start s.clearOut) hfrozen d
  refine ⟨fun hbad => ⟨_, rfl, ?_⟩, fun k hk => ⟨_, rfl, ?_⟩⟩
  · refine command_refused due (by decide) (res := cmdRefused .badArgument) (hjudge.trans ?_)
    rw [Ev.doSetClass, classNo_none hbad]
  · have hset : (Ev.start s.clearOut).doSetClass d
        = ((classSet s k d).rewriteDescription, cmdDone (bit (clampedMark (cellClass s.frames.exp d) d))) := by
      rw [Ev.doSetClass, hk, classNo_of_val]
      rfl
    obtain ⟨hcommanded, hleft, hnotes, hmade⟩ := takeWrite_commanded due (by decide) (hjudge.trans hset)
      ⟨rfl, rfl, rfl, rfl, rfl, rfl, rfl⟩ ⟨rfl, rfl, rfl⟩ rfl
    have hclass : (s.takeWrite r addr d).coll.classes.get k = cellClass s.frames.exp d := by
      rw [hleft.coll]
      exact get_put_same _ _ _
    have hown : (cellClass s.frames.exp d).ownLane = true ↔ field d 9 1 ≠ 0 := by simp [cellClass]
    refine ⟨?_, fun j hj => ?_, by rw [hleft.coll]; rfl, by rw [hleft.coll]; rfl, by rw [hleft.coll]; rfl,
      ⟨_, bit_le_one _, hcommanded, ?_⟩, Ev.described hleft rfl hmade, hleft.slots, hleft.lanes, hleft.frames,
      hleft.copy, hleft.cmd, hnotes⟩
    · rw [hclass]
      exact ⟨rfl, rfl, rfl, rfl, rfl, rfl, hown⟩
    · rw [hleft.coll]
      exact get_put_other _ _ _ _ hj.symm
    · rw [hclass]
      exact bit_clampedMark_eq_zero _ d hown

/-- The entries that SET TABLE keeps (R79). -/
theorem listed_or_bound (x : CollEntry) :
    (x.pinned || x.listed || x.lane.isSome) = !(!x.pinned && !x.listed && x.lane.isNone) := by
  cases x.pinned <;> cases x.listed <;> cases x.lane <;> rfl

/-- Settles O33: pattern and table are the cell's, brought into range, and described. -/
theorem patternAndTableAreReplaced : Obligations.PatternAndTableAreReplaced := by
  unfold Obligations.PatternAndTableAreReplaced
  intro s r addr d cell hfrozen
  refine ⟨fun due => ⟨_, rfl, ?_⟩, fun due => ⟨_, rfl, ?_⟩⟩
  · obtain ⟨hcommanded, hleft, hnotes, hmade⟩ := takeWrite_commanded due (by decide)
      (judgeCommand_setPattern (e := Ev.start s.clearOut) hfrozen d) ⟨rfl, rfl, rfl, rfl, rfl, rfl, rfl⟩ ⟨rfl, rfl, rfl⟩ rfl
    have hcopy : (s.takeWrite r addr d).copy
        = { period := clampPeriod (field d 8 1), counter := 0, masks := cellMasks d } := hleft.copy
    refine ⟨by rw [hcopy]; rfl, by rw [hcopy], fun p => ?_, hcommanded,
      ⟨hleft.slots, hleft.lanes, hleft.frames, hleft.cmd, Ev.described hleft rfl hmade, hnotes⟩, hleft.coll⟩
    rw [hcopy]
    exact Vector.get_ofFn _ p
  · obtain ⟨hcommanded, hleft, hnotes, hmade⟩ := takeWrite_commanded due (by decide)
      (judgeCommand_setTable (e := Ev.start s.clearOut) hfrozen d) ⟨rfl, rfl, rfl, rfl, rfl, rfl, rfl⟩ ⟨rfl, rfl, rfl⟩ rfl
    refine ⟨?_, hcommanded,
      ⟨hleft.slots, hleft.lanes, hleft.frames, hleft.cmd, Ev.described hleft rfl hmade, hnotes⟩, hleft.copy⟩
    rw [hleft.coll]
    simp only [← listed_or_bound]
    rfl

/-! ### Collections -/

theorem grantFreed_not_due {e : Ev} (h : e.reserveDue = false) : e.grantFreed = e := by
  unfold Ev.grantFreed
  rw [h]
  rfl

/-- The entry that REGISTER pins at the most recent place (R80). -/
abbrev pinnedEntry (tag : Tag) (c : ClassNo) (lane : Option LaneNo) : CollEntry :=
  { tag := tag, cls := c, pinned := true, listed := true, lane := lane }

/-- A tag that the table does not hold has no entry to take out. -/
theorem filter_absent {tag : Tag} {l : List CollEntry} (h : l.find? (fun x => x.tag == tag) = none) :
    l.filter (fun x => x.tag != tag) = l := by
  rw [List.filter_eq_self]
  intro x hx
  simpa using List.find?_eq_none.mp h x hx

/-- REGISTER with a class 0..7 of a tag that the table holds (R80). -/
theorem doRegister_present {e : Ev} {d : List Byte} {c : ClassNo} {x : CollEntry} (hc : field d 12 1 = c.val)
    (hx : e.entryOf (BitVec.ofNat 32 (field d 8 4)) = some x) :
    e.doRegister d = ((e.registerPresent (BitVec.ofNat 32 (field d 8 4)) c x).grantFreed, cmdDone 0) := by
  unfold Ev.doRegister
  simp only [hc, classNo_of_val, hx]

/-- REGISTER with a class 0..7 of a tag that the table does not hold (R80). -/
theorem doRegister_absent {e : Ev} {d : List Byte} {c : ClassNo} (hc : field d 12 1 = c.val)
    (hx : e.entryOf (BitVec.ofNat 32 (field d 8 4)) = none) :
    e.doRegister d = ((e.registerAbsent (BitVec.ofNat 32 (field d 8 4)) c).1.grantFreed,
      (e.registerAbsent (BitVec.ofNat 32 (field d 8 4)) c).2) := by
  unfold Ev.doRegister
  simp only [hc, classNo_of_val, hx]

theorem registerAbsent_full {e : Ev} {t : Tag} {x : CollEntry} (hfull : 128 ≤ e.coll.entries.length)
    (hx : e.coll.entries.reverse.find? (fun y => !y.pinned) = some x) (c : ClassNo) :
    e.registerAbsent t c = (((((e.unbindEntry x .evicted).postEvicted x).setEntries
      (((e.unbindEntry x .evicted).postEvicted x).coll.entries.filter (fun y => y.tag != x.tag))).pinEntry t c none),
        cmdDone x.tag.toNat) := by
  unfold Ev.registerAbsent
  rw [if_neg (Nat.not_lt.mpr hfull), hx]

theorem registerAbsent_allPinned {e : Ev} (hfull : 128 ≤ e.coll.entries.length)
    (hpinned : ∀ x ∈ e.coll.entries, x.pinned = true) (t : Tag) (c : ClassNo) :
    e.registerAbsent t c = (e, cmdRefused .tableFull) := by
  have hall : e.coll.entries.reverse.find? (fun y => !y.pinned) = none := by simpa [List.find?_eq_none] using hpinned
  unfold Ev.registerAbsent
  rw [if_neg (Nat.not_lt.mpr hfull), hall]

theorem doUnregister_present {e : Ev} {d : List Byte} {x : CollEntry}
    (hx : e.entryOf (BitVec.ofNat 32 (field d 8 4)) = some x) :
    e.doUnregister d = (((e.unbindEntry x .reclass).setEntries ((e.unbindEntry x .reclass).coll.entries.filter
      (fun y => y.tag != BitVec.ofNat 32 (field d 8 4)))).grantFreed, cmdDone x.laneNumber) := by
  unfold Ev.doUnregister
  simp only [hx]

theorem unbindEntry_no_lane {e : Ev} {x : CollEntry} (h : x.lane = none) (reason : SealReason) :
    e.unbindEntry x reason = e := by
  unfold Ev.unbindEntry
  rw [h]

theorem postEvicted_no_lane {e : Ev} {x : CollEntry} (h : x.lane = none) : e.postEvicted x = e := by
  unfold Ev.postEvicted
  rw [h]

/-- What a command leaves that changes the entries of the collection table alone (R80, R81). -/
theorem command_entries {s : State} {r : Requester} {addr : UpAddr} {d : List Byte} {c : CellNo} {code : Nat}
    (due : CommandDue s r addr d c code) (hcode : code ≠ 0) {entries : List CollEntry} {res : CmdResult}
    (hjudge : (Ev.start s.clearOut).judgeCommand code d = (withEntries s entries, res)) :
    Commanded s (s.takeWrite r addr d) r addr d c res.status res.result
      ∧ (s.takeWrite r addr d).coll = { s.coll with entries := entries } ∧ (s.takeWrite r addr d).slots = s.slots
      ∧ (s.takeWrite r addr d).lanes = s.lanes ∧ (s.takeWrite r addr d).frames = s.frames
      ∧ (s.takeWrite r addr d).copy = s.copy ∧ (s.takeWrite r addr d).cmd = s.cmd
      ∧ KeepsNotices s (s.takeWrite r addr d) := by
  obtain ⟨hcommanded, hleft, hnotes, _⟩ :=
    takeWrite_commanded due hcode hjudge ⟨rfl, rfl, rfl, rfl, rfl, rfl, rfl⟩ ⟨rfl, rfl, rfl⟩ rfl
  exact ⟨hcommanded, hleft.coll, hleft.slots, hleft.lanes, hleft.frames, hleft.copy, hleft.cmd, hnotes⟩

/-- Settles O30: each case is a change of the entries, or none. -/
theorem registerPinsAndUnregisterRemoves : Obligations.RegisterPinsAndUnregisterRemoves := by
  unfold Obligations.RegisterPinsAndUnregisterRemoves
  intro s r addr d cell hfrozen tag old others gives reg unreg
  refine ⟨fun due => ?_, fun due => ?_⟩
  · have hjudge := judgeCommand_register (e := Ev.start s.clearOut) hfrozen d
    refine ⟨fun hbad => ⟨_, rfl, ?_⟩, fun c hc => ⟨fun x hx hsame => ⟨_, rfl, ?_⟩, fun hnone hroom => ⟨_, rfl, ?_⟩,
      fun hnone hfull hpinned => ⟨_, rfl, ?_⟩, fun x hnone hfull hx hlane => ⟨_, rfl, ?_⟩⟩⟩
    · refine command_entries due (by decide) (entries := s.coll.entries) (res := cmdRefused .badArgument)
        (hjudge.trans ?_)
      simp only [Ev.doRegister, classNo_none hbad]
      rfl
    · refine command_entries due (by decide) (res := cmdDone 0) (hjudge.trans ?_)
      rw [doRegister_present (e := Ev.start s.clearOut) hc hx, Ev.registerPresent]
      split
      · rfl
      · next hother =>
        have hlane := hsame.resolve_left hother
        rw [unbindEntry_no_lane hlane, hlane]
        rfl
    · refine command_entries due (by decide) (res := cmdDone 0) (hjudge.trans ?_)
      have habsent : (Ev.start s.clearOut).registerAbsent tag c
          = (withEntries s (pinnedEntry tag c none :: others), cmdDone 0) := if_pos hroom
      rw [doRegister_absent (e := Ev.start s.clearOut) hc hnone, habsent,
        show others = s.coll.entries from filter_absent hnone]
      rfl
    · refine command_entries due (by decide) (entries := s.coll.entries) (res := cmdRefused .tableFull)
        (hjudge.trans ?_)
      rw [doRegister_absent (e := Ev.start s.clearOut) hc hnone,
        registerAbsent_allPinned (e := Ev.start s.clearOut) hfull hpinned]
      rfl
    · refine command_entries due (by decide) (res := cmdDone x.tag.toNat) (hjudge.trans ?_)
      rw [doRegister_absent (e := Ev.start s.clearOut) hc hnone,
        registerAbsent_full (e := Ev.start s.clearOut) hfull hx, unbindEntry_no_lane hlane, postEvicted_no_lane hlane,
        ← List.filter_filter]
      rfl
  · have hjudge := judgeCommand_unregister (e := Ev.start s.clearOut) hfrozen d
    refine ⟨fun hnone => ⟨_, rfl, ?_⟩, fun x hx hlane => ⟨_, rfl, ?_⟩⟩
    · have hentry : (Ev.start s.clearOut).entryOf (BitVec.ofNat 32 (field d 8 4)) = none := hnone
      refine command_entries due (by decide) (entries := s.coll.entries) (res := cmdRefused .notFound)
        (hjudge.trans ?_)
      simp only [Ev.doUnregister, hentry]
      rfl
    · refine command_entries due (by decide) (res := cmdDone 0) (hjudge.trans ?_)
      rw [doUnregister_present (e := Ev.start s.clearOut) hx, unbindEntry_no_lane hlane, CollEntry.laneNumber, hlane]
      rfl

end Sys2Proof.Safety
end

section
/-! SUPPORT. What closings, ends of files and reservations leave as they are, and the obligation on the counts that a tick
raises (R82, R111, R150, R169). -/

namespace Sys2Proof.Machine

open Sys2Proof.Safety

/-! ### Closings and ends of files -/

/-- The parts of an event that closing a frame, beginning its seal and ending its files leave as they are: all but the
slots, the records of frames and lanes, the copy pattern and the own writes made. -/
structure Ev.ClosingFrame (e e' : Ev) : Prop where
  loader : e'.loader = e.loader
  decoder : e'.decoder = e.decoder
  port : e'.port = e.port
  pending : e'.pending = e.pending
  queue : e'.queue = e.queue
  coll : e'.coll = e.coll
  cmd : e'.cmd = e.cmd
  notes : e'.notes = e.notes
  linkOut : e'.linkOut = e.linkOut
  storeOut : e'.storeOut = e.storeOut
  posted : e'.posted = e.posted
  reserveDue : e'.reserveDue = e.reserveDue
  waitWasEmpty : e'.waitWasEmpty = e.waitWasEmpty
  frames : ∃ table, e'.frames = { e.frames with table := table }
  lanes : ∃ table, e'.lanes = { e.lanes with table := table }

theorem Ev.ClosingFrame.refl (e : Ev) : e.ClosingFrame e :=
  ⟨rfl, rfl, rfl, rfl, rfl, rfl, rfl, rfl, rfl, rfl, rfl, rfl, rfl, ⟨_, rfl⟩, ⟨_, rfl⟩⟩

theorem Ev.ClosingFrame.trans {e e' e'' : Ev} (h : e.ClosingFrame e') (h' : e'.ClosingFrame e'') :
    e.ClosingFrame e'' := by
  obtain ⟨frames, hframes⟩ := h.frames
  obtain ⟨frames', hframes'⟩ := h'.frames
  obtain ⟨lanes, hlanes⟩ := h.lanes
  obtain ⟨lanes', hlanes'⟩ := h'.lanes
  exact ⟨h'.loader.trans h.loader, h'.decoder.trans h.decoder, h'.port.trans h.port, h'.pending.trans h.pending,
    h'.queue.trans h.queue, h'.coll.trans h.coll, h'.cmd.trans h.cmd, h'.notes.trans h.notes,
    h'.linkOut.trans h.linkOut, h'.storeOut.trans h.storeOut, h'.posted.trans h.posted,
    h'.reserveDue.trans h.reserveDue, h'.waitWasEmpty.trans h.waitWasEmpty,
    ⟨frames', by rw [hframes', hframes]⟩, ⟨lanes', by rw [hlanes', hlanes]⟩⟩

theorem Ev.ClosingFrame.foldl {β : Type} {f : Ev → β → Ev} (hf : ∀ (e : Ev) (b : β), e.ClosingFrame (f e b))
    (l : List β) (e : Ev) : e.ClosingFrame (l.foldl f e) :=
  foldl_keeps Ev.ClosingFrame Ev.ClosingFrame.refl Ev.ClosingFrame.trans f hf l e

theorem Ev.SealFrame.closingFrame {n : FrameNo} {e e' : Ev} (h : e.SealFrame n e') : e.ClosingFrame e' :=
  ⟨h.loader, h.decoder, h.port, h.pending, h.queue, h.coll, h.cmd, h.notes, h.linkOut, h.storeOut, h.posted,
    h.reserveDue, h.waitWasEmpty, ⟨_, h.frames⟩, ⟨_, h.lanes⟩⟩

theorem Ev.sealIfEmpty_closingFrame (e : Ev) (n : FrameNo) : e.ClosingFrame (e.sealIfEmpty n) :=
  (e.sealIfEmpty_keeps n).closingFrame

theorem Ev.setFrame_closingFrame (e : Ev) (n : FrameNo) (x : Frame) : e.ClosingFrame (e.setFrame n x) :=
  ⟨rfl, rfl, rfl, rfl, rfl, rfl, rfl, rfl, rfl, rfl, rfl, rfl, rfl, ⟨_, rfl⟩, ⟨_, rfl⟩⟩

theorem Ev.dropOpen_closingFrame (e : Ev) (n : FrameNo) : e.ClosingFrame (e.dropOpen n) := by
  unfold Ev.dropOpen
  dsimp only
  split
  · exact ⟨rfl, rfl, rfl, rfl, rfl, rfl, rfl, rfl, rfl, rfl, rfl, rfl, rfl, ⟨_, rfl⟩, ⟨_, rfl⟩⟩
  · exact .refl e

theorem Ev.toClosing_closingFrame (e : Ev) (n : FrameNo) (reason : SealReason) :
    e.ClosingFrame (e.toClosing n reason) := by
  unfold Ev.toClosing
  split
  · exact (e.setFrame_closingFrame n _).trans (Ev.dropOpen_closingFrame _ n)
  · exact .refl e

theorem Ev.closeFrame_closingFrame (e : Ev) (n : FrameNo) (reason : SealReason) :
    e.ClosingFrame (e.closeFrame n reason) :=
  (e.toClosing_closingFrame n reason).trans (Ev.sealIfEmpty_closingFrame _ n)

theorem Ev.closeLane_closingFrame (e : Ev) (l : LaneNo) (reason : SealReason) :
    e.ClosingFrame (e.closeLane l reason) := by
  unfold Ev.closeLane
  split
  · exact e.closeFrame_closingFrame _ reason
  · exact .refl e

theorem Ev.endFileHeld_closingFrame (e : Ev) (k : SlotNo) (reason : EndReason) :
    e.ClosingFrame (e.endFileHeld k reason) := by
  unfold Ev.endFileHeld
  split
  · next f _ _ p _ =>
    refine Ev.ClosingFrame.trans ?_ (Ev.sealIfEmpty_closingFrame _ p.frame)
    exact ⟨rfl, rfl, rfl, rfl, rfl, rfl, rfl, rfl, rfl, rfl, rfl, rfl, rfl, ⟨_, rfl⟩, ⟨_, rfl⟩⟩
  · exact .refl e

/-! ### The timers -/

theorem Ev.expireQuiet_closingFrame (e : Ev) (n : FrameNo) : e.ClosingFrame (e.expireQuiet n) := by
  unfold Ev.expireQuiet
  split
  · exact e.closeFrame_closingFrame n .quiet
  · exact .refl e

theorem Ev.expireAge_closingFrame (e : Ev) (n : FrameNo) : e.ClosingFrame (e.expireAge n) := by
  unfold Ev.expireAge
  split
  · exact e.closeFrame_closingFrame n .age
  · exact .refl e

theorem Ev.forceEnd_closingFrame (n : FrameNo) (e : Ev) (k : SlotNo) : e.ClosingFrame (Ev.forceEnd n e k) := by
  unfold Ev.forceEnd
  split
  · split
    · exact e.endFileHeld_closingFrame k .forced
    · exact .refl e
  · exact .refl e

theorem Ev.expireStraggler_closingFrame (e : Ev) (n : FrameNo) : e.ClosingFrame (e.expireStraggler n) := by
  unfold Ev.expireStraggler
  split
  · exact ((e.setFrame_closingFrame n _).trans (.foldl (Ev.forceEnd_closingFrame n) _ _)).trans
      (Ev.sealIfEmpty_closingFrame _ n)
  · exact .refl e

theorem Ev.testFrame_closingFrame (e : Ev) (n : FrameNo) : e.ClosingFrame (e.testFrame n) := by
  unfold Ev.testFrame
  split
  · split
    · exact e.expireAge_closingFrame n
    · exact e.expireQuiet_closingFrame n
  · exact e.expireStraggler_closingFrame n
  · exact .refl e

theorem Ev.testTimers_closingFrame (e : Ev) : e.ClosingFrame e.testTimers := by
  unfold Ev.testTimers
  split
  · have horder : e.ClosingFrame { e with inOrder := true } :=
      ⟨rfl, rfl, rfl, rfl, rfl, rfl, rfl, rfl, rfl, rfl, rfl, rfl, rfl, ⟨_, rfl⟩, ⟨_, rfl⟩⟩
    exact horder.trans (.foldl Ev.testFrame_closingFrame _ _)
  · exact .refl e

/-! ### The end of an event -/

/-- Reservations leave the tick count, the lane hold time and the frame geometry (R99). -/
theorem Ev.reserveAll_geometry (e : Ev) : KeepsGeometry e.toState e.reserveAll.toState := by
  unfold Ev.reserveAll
  split
  · refine foldl_keeps (fun a b : Ev => KeepsGeometry a.toState b.toState)
      (fun _ => ⟨rfl, rfl, rfl, rfl, rfl, rfl, rfl⟩) ?_ Ev.reserveLane (fun e l => ?_) _ e
    · rintro a b c ⟨hexp, hnF, hfloor, hstraggler, hpreamble, htick, hhold⟩
        ⟨hexp', hnF', hfloor', hstraggler', hpreamble', htick', hhold'⟩
      exact ⟨hexp'.trans hexp, hnF'.trans hnF, hfloor'.trans hfloor, hstraggler'.trans hstraggler,
        hpreamble'.trans hpreamble, htick'.trans htick, hhold'.trans hhold⟩
    · obtain ⟨htick, hhold, hexp, hnF, hfloor, hstraggler, hpreamble⟩ := e.reserveLane_geometry l
      exact ⟨hexp, hnF, hfloor, hstraggler, hpreamble, htick, hhold⟩
  · exact ⟨rfl, rfl, rfl, rfl, rfl, rfl, rfl⟩

/-- The end of an event leaves the tick count, the lane hold time and the frame geometry. -/
theorem Ev.finish_geometry (e : Ev) : KeepsGeometry e.toState e.finish := by
  have hnotice : KeepsGeometry e.toState e.reserveAll.waitNotice.toState := by
    rw [Ev.waitNotice_toState]
    exact e.reserveAll_geometry
  exact hnotice

/-- The read's timeout puts the loader in PASSIVE, with its own write, and changes nothing else (R169). -/
theorem Ev.readTimeout_loader (e : Ev) : e.readTimeout.loader
    = { state := if e.loader.state = .loading ∧ 4 ≤ e.lanes.tick.toNat then .passive else e.loader.state,
        strap := e.loader.strap } := by
  unfold Ev.readTimeout
  split <;> rfl

theorem Ev.readTimeout_keeps (e : Ev) : e.readTimeout.lanes = e.lanes ∧ e.readTimeout.cmd = e.cmd
    ∧ e.readTimeout.coll = e.coll ∧ e.readTimeout.port = e.port ∧ e.readTimeout.decoder = e.decoder := by
  unfold Ev.readTimeout
  split <;> exact ⟨rfl, rfl, rfl, rfl, rfl⟩

end Sys2Proof.Machine

namespace Sys2Proof.Safety

open Sys2Proof.Machine

/-- Settles O6: the counts rise first, and neither the timeout nor the timers touch them again. -/
theorem tickRaisesBothCounts : Obligations.TickRaisesBothCounts := by
  unfold Obligations.TickRaisesBothCounts
  intro s
  refine ⟨_, rfl, ?_⟩
  let counted : Ev := (Ev.start s.clearOut).countTick
  show (counted.readTimeout.testTimers.finish).lanes.tick = s.lanes.tick + 1 ∧ _
  have htimers := counted.readTimeout.testTimers_closingFrame
  obtain ⟨hlanes, hcmd, hcoll, hport, hdecoder⟩ := counted.readTimeout_keeps
  obtain ⟨_, _, _, _, _, htick, _⟩ := counted.readTimeout.testTimers.finish_geometry
  obtain ⟨_, htable⟩ := htimers.lanes
  refine ⟨?_, ?_, ?_, ?_, ?_, ?_⟩
  · rw [htick, htable, hlanes]; rfl
  · exact (Ev.finish_cmd _).trans (htimers.cmd.trans hcmd)
  · exact (Ev.finish_coll _).trans (htimers.coll.trans hcoll)
  · exact (Ev.finish_port _).trans (htimers.port.trans hport)
  · exact (Ev.finish_decoder _).trans (htimers.decoder.trans hdecoder)
  · exact (Ev.finish_loader _).trans (htimers.loader.trans counted.readTimeout_loader)

end Sys2Proof.Safety
end

section
/-! SUPPORT. The profile that passes its checks (R168 to R174): the widths of its fields, its pack window's span, what the
checks say of it, and the obligation on entering ACTIVE. -/

namespace Sys2Proof.Machine

open Sys2Proof.Safety

/-! ### The width of a field -/

theorem leNat_lt (bs : List Byte) : leNat bs < 256 ^ bs.length := by
  induction bs with
  | nil => simp [leNat]
  | cons b bs ih =>
    have hb := b.isLt
    rw [leNat, List.length_cons, Nat.pow_succ]
    omega

/-- A field of `size` bytes holds a number below 256 to that size (R177). -/
theorem field_lt (d : List Byte) (off size : Nat) : field d off size < 256 ^ size := by
  have hlen : ((d.drop off).take size).length ≤ size := List.length_take_le size (d.drop off)
  exact (leNat_lt _).trans_le (Nat.pow_le_pow_right (by decide) hlen)

/-! ### The decode span of the pack window -/

/-- Doubling finds the least power of two at or above `n`, when it may go on long enough (R172). -/
theorem powerAtLeast_eq {n : Nat} (fuel i : Nat) (hfuel : n ≤ 2 ^ (i + fuel)) (hleast : ∀ j < i, 2 ^ j < n) :
    ∃ k, powerAtLeast n fuel (2 ^ i) = 2 ^ k ∧ n ≤ 2 ^ k ∧ ∀ j < k, 2 ^ j < n := by
  induction fuel generalizing i with
  | zero => exact ⟨i, rfl, hfuel, hleast⟩
  | succ fuel ih =>
    unfold powerAtLeast
    split
    · next h => exact ⟨i, rfl, h, hleast⟩
    · next h =>
      rw [← Nat.pow_succ]
      refine ih (i + 1) (by rwa [Nat.add_right_comm]) (fun j hj => ?_)
      rcases Nat.lt_succ_iff_lt_or_eq.mp hj with hlt | rfl
      · exact hleast j hlt
      · exact Nat.lt_of_not_le h

/-- The decode span is the least power of two at or above the bytes of the frames (R172). -/
theorem decodeSpan_eq {nF : Nat} (exp : Nat) (hpos : 1 ≤ nF) (hwidth : nF ≤ 2 ^ 16) :
    ∃ k, decodeSpan nF exp = 2 ^ k ∧ nF * 2 ^ exp ≤ 2 ^ k ∧ ∀ j < k, 2 ^ j < nF * 2 ^ exp := by
  obtain ⟨k, hspan, hcovers, hleast⟩ := powerAtLeast_eq (n := nF) 16 0 (by simpa using hwidth) (fun j hj => by omega)
  have hspan' : powerAtLeast nF 16 1 = 2 ^ k := hspan
  refine ⟨k + exp, by rw [decodeSpan, hspan', Nat.pow_add], ?_, fun j hj => ?_⟩
  · rw [Nat.pow_add]
    exact Nat.mul_le_mul_right _ hcovers
  · by_cases hjexp : j < exp
    · calc 2 ^ j < 2 ^ exp := Nat.pow_lt_pow_right (by decide) hjexp
        _ ≤ nF * 2 ^ exp := Nat.le_mul_of_pos_left _ hpos
    · have hsplit : j = (j - exp) + exp := by omega
      rw [hsplit, Nat.pow_add]
      exact Nat.mul_lt_mul_of_pos_right (hleast (j - exp) (by omega)) (Nat.two_pow_pos exp)

/-! ### What the checks say -/

/-- A check that reports no item finds none that fails, whatever its free choice (log 18). -/
theorem failing_none {α : Type} {check : Nat} {items : List (Bool × α)} (h : failing check items = none) :
    ∀ x ∈ items, x.1 = false := by
  have hempty : (items.filter Prod.fst).map Prod.snd = [] := by
    by_contra hsome
    have hpos : 0 < ((items.filter Prod.fst).map Prod.snd).length := List.length_pos_iff.mpr hsome
    rw [failing, freeItem, List.getElem?_eq_none_iff] at h
    exact absurd (Nat.mod_lt _ hpos) (Nat.not_lt.mpr h)
  intro x hx
  have hnone := List.filter_eq_nil_iff.mp (List.map_eq_nil_iff.mp hempty) x hx
  simpa using hnone

/-- A profile that passes its checks has 16 frames or more, and OWN_LANE bytes of 0 or 1 (R171). -/
theorem Profile.check_none {p : Profile} (h : p.check = none) :
    16 ≤ p.nF ∧ ∀ c : ClassNo, (p.classes.get c).ownLaneRead ≤ 1 := by
  simp only [Profile.check, Option.orElse_eq_orElse, Option.orElse_eq_or, Option.or_eq_none_iff] at h
  obtain ⟨hgeometry, _, _, _, _, _, hclass, _⟩ := h
  constructor
  · by_contra hfew
    rw [Profile.checkGeometry, if_neg (fun hall => hfew hall.2.2.1)] at hgeometry
    cases hgeometry
  · intro c
    rw [Profile.checkClass, Option.map_eq_none_iff] at hclass
    have hflag := failing_none hclass (decide (1 < (p.classes.get c).ownLaneRead), (c.val, 2))
      (List.mem_flatMap.mpr ⟨c, List.mem_finRange c, by simp⟩)
    simpa using hflag

/-! ### The event that enters ACTIVE -/

/-- The event in which the loader enters ACTIVE with profile `p`: the values taken, the description record and the clearing
writes made, RESET_DONE posted (R174). -/
def Ev.activated (e : Ev) (p : Profile) : Ev :=
  { (e.takeProfile p).rewriteDescription with
    made := (e.takeProfile p).rewriteDescription.made ++ clearingWrites (p.window 0).store
    posted := e.posted ++ [(.path, { time := e.cmd.bridgeTime, body := .resetDone false e.loader.strap.val })] }

theorem Ev.enterActive_eq (e : Ev) (p : Profile) : e.enterActive p = e.activated p := by
  unfold Ev.enterActive
  exact Ev.post_active rfl _ _

theorem mem_clearingWrites (base : Nat) (p : RingPos) : clearingWrite base p ∈ clearingWrites base :=
  List.mem_map.mpr ⟨p.toFin, List.mem_finRange _, rfl⟩

/-- A profile whose check word matches and which passes its checks is taken (R168, R171, R174). -/
theorem exec_profilePasses {memory : List Byte} {s : State} (hstate : s.loader.state = .loading)
    (hlen : memory.length = 4096)
    (hdigest : (digestOf ((profileAt memory s.loader.strap).take 1020)).toNat
      = field (profileAt memory s.loader.strap) 1020 4)
    (hcheck : (parseProfile (profileAt memory s.loader.strap)).check = none) :
    exec (.profileReadDone memory) s
      = .next ((Ev.start s.clearOut).activated (parseProfile (profileAt memory s.loader.strap))).finish := by
  have hjudge : (Ev.start s.clearOut).judgeProfile (profileAt memory s.loader.strap)
      = (Ev.start s.clearOut).activated (parseProfile (profileAt memory s.loader.strap)) := by
    unfold Ev.judgeProfile
    simp only [hdigest, ne_eq, not_true_eq_false, if_false, hcheck, Ev.enterActive_eq]
  show execProfileReadDone memory s = _
  rw [execProfileReadDone, if_pos ⟨hstate, hlen⟩, ← hjudge]
  rfl

end Sys2Proof.Machine

namespace Sys2Proof.Safety

open Sys2Proof.Machine

/-- The windows of a profile by their numbers (R170, R186). -/
theorem parseProfile_window (d : List Byte) {i : Nat} (h : i < 7) : (parseProfile d).window i = profileWindow d i := by
  simp [parseProfile, Profile.window, h]

theorem profileWindow_pass (d : List Byte) (k : Fin 4) : profileWindow d (k.val + 3)
    = { base := field d (72 + k.val * 24) 6, size := field d (80 + k.val * 24) 8, store := field d (88 + k.val * 24) 5,
        readOnly := bitAt d (78 + k.val * 24) 0 } := by
  fin_cases k <;> rfl

/-- Settles O4: every value is read out of the profile's bytes, and the event posts RESET_DONE alone. -/
theorem profileThatPassesEntersActive : Obligations.ProfileThatPassesEntersActive := by
  unfold Obligations.ProfileThatPassesEntersActive
  intro memory s hstate hlen d hdigest hcheck
  obtain ⟨hframes, hown⟩ := Profile.check_none hcheck
  refine ⟨_, exec_profilePasses hstate hlen hdigest hcheck, ?_⟩
  have hd : profileAt memory s.loader.strap = d := rfl
  rw [hd]
  clear_value d
  let e := (Ev.start s.clearOut).activated (parseProfile d)
  have hnone : e.reservesNone := .inl (Ev.noReservation_of_same rfl rfl)
  have hleft := Ev.finish_leftIn hnone
  have hmade : ∀ w ∈ e.made, Made e.finish w := fun w hw => Ev.finish_made hw
  have hnotes : Posted s e.finish [.resetDone false s.loader.strap.val] := Ev.finish_posted rfl rfl rfl
  show e.finish.loader = _ ∧ _
  generalize e.finish = t at hleft hmade hnotes ⊢
  have hdescribed : Described s t := by
    refine Ev.described (e := (Ev.start s.clearOut).takeProfile (parseProfile d)) ?_ rfl
      (fun w hw => hmade w (List.mem_append_left _ hw))
    exact ⟨hleft.loader, hleft.decoder, hleft.port, hleft.pending, hleft.slots, hleft.coll, hleft.lanes, hleft.frames,
      hleft.copy, hleft.cmd⟩
  have hwindow (i : Nat) (hi : i < 7 := by decide) := parseProfile_window d hi
  have hcontrol : t.decoder.control = profileWindow d 0 := by rw [hleft.decoder]; exact hwindow 0
  have hslot : t.decoder.slot = profileWindow d 1 := by rw [hleft.decoder]; exact hwindow 1
  have hpack : t.decoder.pack = profileWindow d 2 := by rw [hleft.decoder]; exact hwindow 2
  have hpass (k : Fin 4) : t.decoder.pass.get k = profileWindow d (k.val + 3) := by
    rw [hleft.decoder, ← hwindow (k.val + 3) (by omega)]
    exact Vector.get_ofFn _ k
  have hclass (k : ClassNo) : t.coll.classes.get k = (profileClass d k.val).cls := by
    rw [hleft.coll]
    exact (Vector.get_ofFn _ k).trans (congrArg ProfileClass.cls (Vector.get_ofFn _ k))
  have hmask (p : PoolNo) : t.copy.masks.get p = BitVec.ofNat 16 (field d (180 + 2 * p.val) 2) := by
    rw [hleft.copy]
    exact Vector.get_ofFn _ p
  have hownRead (k : ClassNo) : field d (216 + k.val * 16) 1 ≤ 1 := by
    have hclassOf : (parseProfile d).classes.get k = profileClass d k.val := Vector.get_ofFn _ k
    rw [← show (profileClass d k.val).ownLaneRead = field d (216 + k.val * 16) 1 from rfl, ← hclassOf]
    exact hown k
  refine ⟨hleft.loader, hcontrol, hslot, by rw [hpack]; rfl, by rw [hpack]; rfl, by rw [hpack]; rfl, ?_,
    fun k => (hpass k).trans (profileWindow_pass d k), by rw [hleft.decoder]; rfl, by rw [hleft.frames]; rfl,
    by rw [hleft.frames]; rfl, by rw [hleft.frames]; rfl, by rw [hleft.frames]; rfl, by rw [hleft.frames]; rfl,
    by rw [hleft.lanes]; rfl, by rw [hleft.copy]; rfl, by rw [hleft.copy]; rfl, hmask, by rw [hleft.coll]; rfl,
    by rw [hleft.coll]; rfl, fun k => ?_, hleft.cmd, hleft.slots, by rw [hleft.coll]; rfl, by rw [hleft.frames]; rfl,
    by rw [hleft.lanes]; rfl, hleft.port, hdescribed, fun p => ?_, hnotes⟩
  · rw [hpack]
    have hwidth := field_lt d 170 2
    exact decodeSpan_eq _ (Nat.le_trans (by decide) hframes) (by omega)
  · have hk := hownRead k
    rw [hclass]
    refine ⟨?_, rfl, rfl, rfl, rfl, rfl, rfl⟩
    simp only [profileClass, bne_iff_ne]
    omega
  · refine hmade _ (List.mem_append_right _ ?_)
    rw [hcontrol, ← hwindow 0]
    exact mem_clearingWrites _ p

end Sys2Proof.Safety
end

section
/-! SUPPORT. The answer to a probe (R74 to R78, R185): how it narrows the search or ends it, the class found cached and
delivered, and the obligation on probe answers. -/

namespace Sys2Proof.Machine

open Sys2Proof.Safety

/-! ### The search after an answer -/

section
variable (e : Ev) {q : Search} {bytes : List Byte}

/-- An entry below the tag sought, with a part left above it (R74). -/
theorem Ev.searchStep_upper (htag : entryTag bytes < q.tag) (hpart : (q.lo + q.hi) / 2 + 1 ≤ q.hi) :
    e.searchStep q (.data bytes) = e.probe { q with lo := (q.lo + q.hi) / 2 + 1 } := by
  unfold Ev.searchStep
  dsimp only
  rw [if_neg (BitVec.ne_of_lt htag), if_pos htag, if_pos hpart]

/-- An entry above the tag sought, with a part left below it (R74). -/
theorem Ev.searchStep_lower (htag : q.tag < entryTag bytes) (hpart : q.lo < (q.lo + q.hi) / 2) :
    e.searchStep q (.data bytes) = e.probe { q with hi := (q.lo + q.hi) / 2 - 1 } := by
  unfold Ev.searchStep
  dsimp only
  rw [if_neg (BitVec.ne_of_lt htag).symm, if_neg (BitVec.lt_asymm htag), if_pos hpart]

/-- The class byte of an entry read out (R75, R185). -/
theorem classOfByte_entryClass (bytes : List Byte) :
    (classOfByte (entryClass bytes)).val = if field bytes 4 1 < 8 then field bytes 4 1 else 0 := by
  have hbyte : (entryClass bytes).toNat = field bytes 4 1 := by
    rw [entryClass, BitVec.toNat_ofNat]
    exact Nat.mod_eq_of_lt (field_lt bytes 4 1)
  unfold classOfByte
  split
  · next h => rw [hbyte] at h; rw [if_pos h]; exact hbyte
  · next h => rw [hbyte] at h; rw [if_neg h]; rfl

/-- A hit, or a part left empty, ends the search with the class it gives (R75). -/
theorem Ev.searchStep_ends {c : ClassNo}
    (hends : entryTag bytes = q.tag ∨ (entryTag bytes < q.tag ∧ q.hi < (q.lo + q.hi) / 2 + 1)
      ∨ (q.tag < entryTag bytes ∧ (q.lo + q.hi) / 2 ≤ q.lo))
    (hc : c.val = if entryTag bytes = q.tag ∧ field bytes 4 1 < 8 then field bytes 4 1 else 0) :
    e.searchStep q (.data bytes) = e.searchFound q c (decide (entryTag bytes = q.tag)) := by
  unfold Ev.searchStep
  dsimp only
  rcases hends with htag | ⟨htag, hpart⟩ | ⟨htag, hpart⟩
  · have hclass : classOfByte (entryClass bytes) = c := by
      rw [Fin.ext_iff, classOfByte_entryClass, hc]
      simp only [htag, true_and]
    rw [if_pos htag, hclass, decide_eq_true htag]
  · have hclass : c = 0 := Fin.ext (hc.trans (if_neg (fun h => BitVec.ne_of_lt htag h.1)))
    rw [if_neg (BitVec.ne_of_lt htag), if_pos htag, if_neg (Nat.not_le.mpr hpart), hclass,
      decide_eq_false (BitVec.ne_of_lt htag)]
  · have hclass : c = 0 := Fin.ext (hc.trans (if_neg (fun h => (BitVec.ne_of_lt htag).symm h.1)))
    rw [if_neg (BitVec.ne_of_lt htag).symm, if_neg (BitVec.lt_asymm htag), if_neg (Nat.not_lt.mpr hpart), hclass,
      decide_eq_false (BitVec.ne_of_lt htag).symm]

end

/-- The entry cached for the tag of a search (R72, R75). -/
def foundEntry (q : Search) (c : ClassNo) (listed : Bool) : CollEntry :=
  { tag := q.tag, cls := c, pinned := false, listed := listed, lane := none }

/-- A class found for a tag that the table, with room, does not hold is cached, and the search ends with it (R75). -/
theorem Ev.searchFound_caches {e : Ev} {q : Search} (habsent : e.entryOf q.tag = none)
    (hroom : e.coll.entries.length < 128) (c : ClassNo) (listed : Bool) :
    e.searchFound q c listed = (e.setEntries (foundEntry q c listed :: e.coll.entries)).endSearch q c := by
  have hcached : e.cacheResult q.tag c listed = e.setEntries (foundEntry q c listed :: e.coll.entries) := if_pos hroom
  unfold Ev.searchFound Ev.classFor
  rw [habsent, hcached]
  rfl

theorem Ev.endSearch_unclaimed {q : Search} (h : q.claimed = false) (e : Ev) (c : ClassNo) :
    e.endSearch q c = e.setSearch none := by
  unfold Ev.endSearch
  rw [h]
  rfl

theorem Ev.endSearch_claimed {q : Search} (h : q.claimed = true) (e : Ev) (c : ClassNo) :
    e.endSearch q c = (e.setSearch none).deliver q.slot c := by
  unfold Ev.endSearch
  rw [h]
  rfl

/-- An idle engine with an empty queue has nothing to do (R73). -/
theorem Ev.serveAll_idle {e : Ev} (hsearch : e.coll.search = none) (hqueue : e.coll.lookupQ = []) : e.serveAll = e := by
  simp only [Ev.serveAll, hqueue, Ev.serve, hsearch]

/-- An entry of a tag that no other entry has stays at the most recent place. -/
theorem touched_head {x : CollEntry} {l : List CollEntry} (h : l.find? (fun y => y.tag == x.tag) = none) :
    touched x.tag (x :: l) = x :: l := by
  simp [touched, filter_absent h]

/-- A file whose class has no lane of its own, delivered into the OPEN pack of lane 0 (R31, R83, R93). -/
theorem Ev.deliver_common {e : Ev} {k : SlotNo} {f : File} {c : ClassNo} {n : FrameNo} (hslot : e.slot k = .lookup f)
    (hown : (e.classRec c).ownLane = false) (hwait : e.frames.waitQ = []) (hopen : (e.lane 0).openFrame = some n)
    (hfits : Fits e.toState (e.frame n) f.intent.length) (hstays : StaysOpen (e.frame n) f.intent.length)
    (hmade : e.made = []) :
    e.deliver k c
      = ((e.setLookupQ (e.coll.lookupQ.filter (fun j => j != k))).placedIn k f c 0 n).holdReport k := by
  have hchoose : (e.setLookupQ (e.coll.lookupQ.filter (fun j => j != k))).chooseLane f.intent.tag c
      = (e.setLookupQ (e.coll.lookupQ.filter (fun j => j != k)), 0) := by
    have hrec : (e.setLookupQ (e.coll.lookupQ.filter (fun j => j != k))).classRec c = e.classRec c := rfl
    unfold Ev.chooseLane
    rw [hrec, hown]
    rfl
  have hroute : (e.setLookupQ (e.coll.lookupQ.filter (fun j => j != k))).routeClass k f c
      = (e.setLookupQ (e.coll.lookupQ.filter (fun j => j != k))).placedIn k f c 0 n := by
    rw [Ev.routeClass, hchoose]
    exact Ev.route_openPack (e := e.setLookupQ (e.coll.lookupQ.filter (fun j => j != k))) hwait hopen hfits hstays k c
  have hreported : ((e.setLookupQ (e.coll.lookupQ.filter (fun j => j != k))).placedIn k f c 0 n).reported k = false := by
    show e.made.any _ = false
    rw [hmade]
    rfl
  unfold Ev.deliver
  simp only [hslot, hroute, hreported, Bool.false_eq_true, if_false]

end Sys2Proof.Machine

namespace Sys2Proof.Safety

open Sys2Proof.Machine

/-! ### What an answer to a probe leaves -/

section
variable {s : State} {x : OutProbe} {rest : List OutProbe}

/-- The answer of an abandoned search is discarded (R16, R78). -/
theorem exec_probeAbandoned (hprobes : s.queue.probes = x :: rest) (hlive : x.live = false) (a : ProbeAnswer) :
    exec (.probeAnswer a) s = .next (probeTaken s rest).finish := by
  show execProbeAnswer a s = _
  unfold execProbeAnswer
  rw [hprobes]
  simp only [hlive, Bool.false_and, Bool.false_eq_true, if_false]
  rfl

/-- The 16 bytes of an entry go to the search in progress, and the engine takes its turn (R73, R74). -/
theorem exec_probeData {q : Search} {bytes : List Byte} (hprobes : s.queue.probes = x :: rest) (hlive : x.live = true)
    (hsearch : s.coll.search = some q) (hlen : bytes.length = 16) :
    exec (.probeAnswer (.data bytes)) s = .next ((probeTaken s rest).searchStep q (.data bytes)).serveAll.finish := by
  have hfits : fitsProbe (.data bytes) = true := beq_iff_eq.mpr hlen
  show execProbeAnswer (.data bytes) s = _
  unfold execProbeAnswer
  rw [hprobes]
  simp only [hlive, hfits, Bool.not_true, Bool.and_false, Bool.false_eq_true, if_false, State.run, State.event]
  rw [show ((Ev.start s.clearOut).setQueue { (Ev.start s.clearOut).queue with probes := rest }).coll.search = some q
    from hsearch]
  rfl

/-- What the answer to a probe leaves, whatever it does: the links, the writes and reads outstanding, the copy pattern and
the command unit. -/
def KeepsRequests (s t : State) : Prop :=
  t.linkOut = [] ∧ t.queue.sent = s.queue.sent ∧ t.queue.reads = s.queue.reads ∧ KeepsPath s t ∧ t.cmd = s.cmd
    ∧ t.copy = s.copy

/-- The event of a probe's answer, with the lookup engine, the probes, what is sent and what is posted as given. -/
def answered (s : State) (coll : Collections) (probes : List OutProbe) (out : List StoreRequest)
    (posted : List (Poster × Notice)) : Ev :=
  { Ev.start s.clearOut with
    coll := coll, queue := { s.queue with probes := probes }, storeOut := out, posted := posted }

theorem answered_reservesNone (s : State) (coll : Collections) (probes : List OutProbe) (out : List StoreRequest)
    (posted : List (Poster × Notice)) : (answered s coll probes out posted).reservesNone :=
  .inl (Ev.noReservation_of_same rfl rfl)

/-- The end of an answer's event that has changed the lookup engine alone. -/
theorem answered_finish (s : State) (coll : Collections) (probes : List OutProbe) (out : List StoreRequest)
    (posted : List (Poster × Notice)) :
    let t := (answered s coll probes out posted).finish
    t.coll = coll ∧ t.queue.probes = probes ∧ t.storeOut = out
      ∧ (t.slots = s.slots ∧ t.lanes = s.lanes ∧ t.frames = s.frames) ∧ KeepsRequests s t := by
  have hleft := Ev.finish_leftIn (answered_reservesNone s coll probes out posted)
  exact ⟨hleft.coll, Ev.finish_probes _, Ev.finish_storeOut _, ⟨hleft.slots, hleft.lanes, hleft.frames⟩,
    Ev.finish_linkOut _, Ev.finish_sent _, Ev.finish_reads _,
    ⟨hleft.loader, hleft.decoder, hleft.port, hleft.pending⟩, hleft.cmd, hleft.copy⟩

theorem answered_keepsNotices (s : State) (coll : Collections) (probes : List OutProbe) (out : List StoreRequest) :
    KeepsNotices s (answered s coll probes out []).finish :=
  Ev.Quiet.keepsNotices (e := answered s coll probes out []) ⟨rfl, rfl, rfl⟩ rfl

/-- A narrowed search sends its next probe (R74). -/
theorem probe_narrows {q next : Search} {bytes : List Byte} (hprobes : s.queue.probes = x :: rest)
    (hlive : x.live = true) (hsearch : s.coll.search = some q) (hlen : bytes.length = 16)
    (hstep : (probeTaken s rest).searchStep q (.data bytes) = (probeTaken s rest).probe next)
    (hstore : next.probeAddr + 16 ≤ 2 ^ 40) :
    exec (.probeAnswer (.data bytes)) s = .next (answered s { s.coll with search := some next }
      (rest ++ [{ addr := next.probeAddr, live := true }]) [.read next.probeAddr 16] []).finish := by
  have hprobed : (probeTaken s rest).searchStep q (.data bytes) = (probeTaken s rest).probed next :=
    hstep.trans (Ev.probe_inStore _ hstore)
  rw [exec_probeData hprobes hlive hsearch hlen, hprobed, Ev.serveAll_busy (q := next) rfl]
  rfl

/-- A search that ends with a class not yet held caches it; with the slot's claim gone nothing is delivered (R75, R77). -/
theorem probe_ends {q : Search} {bytes : List Byte} {c : ClassNo} {listed : Bool} (hprobes : s.queue.probes = x :: rest)
    (hlive : x.live = true) (hsearch : s.coll.search = some q) (hlen : bytes.length = 16)
    (hstep : (probeTaken s rest).searchStep q (.data bytes) = (probeTaken s rest).searchFound q c listed)
    (habsent : s.coll.entries.find? (fun y => y.tag == q.tag) = none) (hroom : s.coll.entries.length < 128) :
    exec (.probeAnswer (.data bytes)) s
      = .next ((answered s { s.coll with entries := foundEntry q c listed :: s.coll.entries } rest [] []).endSearch q
          c).serveAll.finish := by
  rw [exec_probeData hprobes hlive hsearch hlen, hstep,
    Ev.searchFound_caches (e := probeTaken s rest) habsent hroom c listed]
  rfl

end

/-- The event in which a search has ended and its file been placed in the OPEN pack `n` of lane 0. -/
def deliveredIn (s : State) (coll : Collections) (probes : List OutProbe) (k : SlotNo) (f : File) (c : ClassNo)
    (n : FrameNo) : Ev :=
  ((answered s coll probes [] []).placedIn k f c 0 n).holdReport k

/-- A search ended for the one slot in the lookup queue is delivered by way of the OPEN pack of lane 0, and the engine
stays idle (R31, R73). -/
theorem endSearch_delivers {s : State} {entries : List CollEntry} {rest : List OutProbe} {q : Search} {f : File}
    {c : ClassNo} {n : FrameNo} (hclaim : q.claimed = true) (hslot : s.slots.table.get q.slot = .lookup f)
    (hqueue : s.coll.lookupQ = [q.slot]) (hwait : s.frames.waitQ = []) (hown : (s.coll.classes.get c).ownLane = false)
    (hopen : HoldsOpen s 0 n) (hfits : Fits s (s.frames.table.get n) f.intent.length)
    (hstays : StaysOpen (s.frames.table.get n) f.intent.length) :
    ((answered s { s.coll with entries := entries } rest [] []).endSearch q c).serveAll
      = deliveredIn s { s.coll with search := none, entries := entries, lookupQ := [] } rest q.slot f c n := by
  have hdrop : s.coll.lookupQ.filter (fun j => j != q.slot) = [] := by rw [hqueue]; simp
  have hdelivered : ((answered s { s.coll with entries := entries } rest [] []).setSearch none).deliver q.slot c
      = deliveredIn s { s.coll with search := none, entries := entries, lookupQ := [] } rest q.slot f c n := by
    rw [Ev.deliver_common (e := (answered s { s.coll with entries := entries } rest [] []).setSearch none) hslot hown
      hwait hopen.1 hfits hstays rfl]
    show ((((answered s { s.coll with entries := entries } rest [] []).setSearch none).setLookupQ
      (s.coll.lookupQ.filter (fun j => j != q.slot))).placedIn q.slot f c 0 n).holdReport q.slot = _
    rw [hdrop]
    rfl
  rw [Ev.endSearch_claimed hclaim, hdelivered]
  exact Ev.serveAll_idle rfl rfl

/-- What the delivery of a class by way of the OPEN pack of lane 0 leaves (R31, R33, R93). -/
theorem deliveredIn_finish (s : State) (coll : Collections) (probes : List OutProbe) (k : SlotNo) (f : File)
    (c : ClassNo) (n : FrameNo) :
    let fr := s.frames.table.get n
    let t := (deliveredIn s coll probes k f c n).finish
    t.coll = { coll with entries := touched f.intent.tag coll.entries }
      ∧ (∀ j : SlotNo, t.slots.table.get j
          = if j = k then .filling f c 0 { frame := n, entry := fr.count, offset := fr.fill } else s.slots.table.get j)
      ∧ t.frames.table.get n = withFile fr f.intent.length s.lanes.tick
      ∧ OtherFrames s t n ∧ t.lanes = s.lanes ∧ t.queue.probes = probes ∧ t.storeOut = []
      ∧ Made t (s.statusWrite k 3 .placed f.lastReq 0
          (some { frame := n, entry := fr.count, serial := fr.serial }) 0)
      ∧ KeepsNotices s t ∧ KeepsRequests s t := by
  intro fr t
  have hquiet : (deliveredIn s coll probes k f c n).Quiet := ⟨rfl, rfl, rfl⟩
  have hleft := Ev.finish_leftIn hquiet.reservesNone
  refine ⟨hleft.coll, fun j => ?_, ?_, fun m hm => ?_, ?_, Ev.finish_probes _, Ev.finish_storeOut _, ?_,
    hquiet.keepsNotices rfl, Ev.finish_linkOut _, Ev.finish_sent _, Ev.finish_reads _,
    ⟨hleft.loader, hleft.decoder, hleft.port, hleft.pending⟩, hleft.cmd, hleft.copy⟩
  · rw [hleft.slots]
    exact get_put_read _ _ _ _
  · rw [hleft.frames]
    exact get_put_same _ _ _
  · rw [hleft.frames]
    exact get_put_other _ _ _ _ hm.symm
  · rw [hleft.lanes]
    show { s.lanes with table := put s.lanes.table 0 (s.lanes.table.get 0) } = s.lanes
    rw [put_get_self]
  · have hreport : ((answered s coll probes [] []).placedIn k f c 0 n).reportOf k
        = s.statusWrite k 3 .placed f.lastReq 0 (some { frame := n, entry := fr.count, serial := fr.serial }) 0 := by
      rw [Ev.reportOf_filling (Ev.placedIn_slot _ k f c 0 n), Ev.placedIn_frame]
      rfl
    rw [← hreport]
    exact Ev.finish_made (List.mem_append_right _ List.mem_cons_self)

/-- Settles O49: by whether the search is abandoned, narrows, ends with a class, or ends in a fault. -/
theorem probeAnswersNarrowTheSearch : Obligations.ProbeAnswersNarrowTheSearch := by
  unfold Obligations.ProbeAnswersNarrowTheSearch
  intro s x rest hprobes keeps still
  refine ⟨fun hlive a => ⟨_, exec_probeAbandoned hprobes hlive a, ?_⟩, fun q hlive hsearch => ?_⟩
  · obtain ⟨hcoll, hprobes', hout, hstill, hkeeps⟩ := answered_finish s s.coll rest [] []
    exact ⟨hprobes', hout, hcoll, hstill, answered_keepsNotices s s.coll rest [], hkeeps⟩
  intro mid
  refine ⟨fun bytes hlen => ?_, fun hactive hclaim hqueue => ?_⟩
  · intro tag narrows
    have narrow (next : Search)
        (hstep : (probeTaken s rest).searchStep q (.data bytes) = (probeTaken s rest).probe next) : narrows next := by
      intro hstore a
      refine ⟨_, probe_narrows hprobes hlive hsearch hlen hstep hstore, ?_⟩
      obtain ⟨hcoll, hprobes', hout, hstill, hkeeps⟩ := answered_finish s { s.coll with search := some next }
        (rest ++ [{ addr := next.probeAddr, live := true }]) [.read next.probeAddr 16] []
      exact ⟨hcoll, hprobes', hout, hstill, answered_keepsNotices s _ _ _, hkeeps⟩
    refine ⟨fun htag hpart => narrow _ (Ev.searchStep_upper _ htag hpart),
      fun htag hpart => narrow _ (Ev.searchStep_lower _ htag hpart), fun c hends hc => ?_⟩
    intro found habsent hroom
    have hexec := probe_ends hprobes hlive hsearch hlen (Ev.searchStep_ends (probeTaken s rest) hends hc) habsent hroom
    refine ⟨fun hclaim hqueue => ?_, fun f n hclaim hslot hftag hqueue hwait hown hopen hfits hstays => ?_⟩
    · rw [Ev.endSearch_unclaimed hclaim, Ev.serveAll_idle rfl hqueue] at hexec
      refine ⟨_, hexec, ?_⟩
      obtain ⟨hcoll, hprobes', hout, hstill, hkeeps⟩ :=
        answered_finish s { s.coll with search := none, entries := found :: s.coll.entries } rest [] []
      exact ⟨hcoll, hprobes', hout, hstill, answered_keepsNotices s _ _ _, hkeeps⟩
    · rw [endSearch_delivers hclaim hslot hqueue hwait hown hopen hfits hstays] at hexec
      obtain ⟨hcoll, hslots, hframe, hframes, hlanes, hprobes', hout, hmade, hnotes, hkeeps⟩ := deliveredIn_finish s
        { s.coll with search := none, entries := found :: s.coll.entries, lookupQ := [] } rest q.slot f c n
      have htouched : touched f.intent.tag (found :: s.coll.entries) = found :: s.coll.entries := by
        rw [hftag]
        exact touched_head habsent
      rw [htouched] at hcoll
      exact ⟨_, hexec, hcoll, hslots, hframe, hframes, hlanes, hprobes', hout, hmade, hnotes, hkeeps⟩
  · have hfaulted : probeFaulted s rest q = answered s { s.coll with search := none } rest []
        [(.lookup, { time := s.cmd.bridgeTime, body := .lookupFault q.slot q.probeAddr q.tag })] := by
      rw [probeFaulted, Ev.post_active (e := probeTaken s rest) hactive]
      rfl
    have hexec := exec_probeFault hprobes hlive hsearch hclaim
    rw [Ev.serveAll_idle (e := probeFaulted s rest q) (by rw [hfaulted]; rfl) (by rw [hfaulted]; exact hqueue),
      hfaulted] at hexec
    obtain ⟨hcoll, hprobes', hout, hstill, hkeeps⟩ := answered_finish s { s.coll with search := none } rest []
      [(.lookup, { time := s.cmd.bridgeTime, body := .lookupFault q.slot q.probeAddr q.tag })]
    exact ⟨_, hexec, hcoll, hprobes', hout, hstill, hkeeps, Ev.finish_posted rfl rfl rfl⟩

end Sys2Proof.Safety
end

section
/-! SUPPORT. The reservations at the end of an event (R98, R99): the lanes take their turns in ascending number, frames and
lanes only gain reservations, and unsent writes only gain marks; and so what R99 asks of the reservations of an event. -/

namespace Sys2Proof.Machine

open Sys2Proof.Safety

/-! ### The marks of R98 -/

/-- What may become of the unsent writes as frames leave FREE: pack-window writes gain the mark of R98, and nothing else
changes. -/
structure Marking (f : Entry → Entry) : Prop where
  unmark : ∀ x, unmarked (f x) = unmarked x
  keeps : ∀ x, x.cancelled = true → (f x).cancelled = true
  other : ∀ x, (∀ r n a, x.origin ≠ .upstream r (.pack n) a) → f x = x

theorem Marking.id : Marking id := ⟨fun _ => rfl, fun _ h => h, fun _ _ => rfl⟩

theorem Entry.cancelFor_origin (n : FrameNo) (x : Entry) : (x.cancelFor n).origin = x.origin := by
  unfold Entry.cancelFor
  split
  · split <;> rfl
  · rfl

theorem Marking.cancelFor (n : FrameNo) : Marking (Entry.cancelFor n) := by
  refine ⟨fun x => ?_, fun x hx => ?_, fun x hx => ?_⟩
  · unfold Entry.cancelFor
    split
    · split <;> rfl
    · rfl
  · unfold Entry.cancelFor
    split
    · split
      · rfl
      · exact hx
    · exact hx
  · unfold Entry.cancelFor
    split
    · next r m a horigin => exact absurd horigin (hx r m a)
    · rfl

theorem Marking.comp {f g : Entry → Entry} (hf : Marking f) (hg : Marking g) : Marking (g ∘ f) := by
  refine ⟨fun x => (hg.unmark (f x)).trans (hf.unmark x), fun x hx => hg.keeps _ (hf.keeps x hx), fun x hx => ?_⟩
  show g (f x) = x
  rw [hf.other x hx]
  exact hg.other x hx

theorem Marking.map_unmarked {f : Entry → Entry} (hf : Marking f) (q : List Entry) :
    (q.map f).map unmarked = q.map unmarked := by
  rw [List.map_map]
  exact List.map_congr_left (fun x _ => hf.unmark x)

/-! ### The lowest FREE frame and the number of FREE frames -/

theorem State.mem_frameNos (s : State) (n : FrameNo) : n ∈ s.frameNos ↔ InUse s n := by
  simp [State.frameNos]

theorem State.frameNos_ascending (s : State) : s.frameNos.Pairwise (· < ·) :=
  (List.pairwise_lt_finRange 1024).filter _

theorem State.lowestFree_lowest {s : State} {g : FrameNo} (h : s.lowestFree = some g) : LowestFree s g := by
  obtain ⟨hfree, before, after, hsplit, hbefore⟩ := List.find?_eq_some_iff_append.mp h
  have hin : g ∈ s.frameNos := by rw [hsplit]; simp
  refine ⟨(s.mem_frameNos g).mp hin, by simpa using hfree, fun m hm => ?_⟩
  have hmin : m ∈ s.frameNos := (s.mem_frameNos m).mpr (lt_trans (Fin.lt_def.mp hm) ((s.mem_frameNos g).mp hin))
  have horder := s.frameNos_ascending
  rw [hsplit] at hmin horder
  rcases List.mem_append.mp hmin with hm' | hm'
  · simpa using hbefore m hm'
  · rcases List.mem_cons.mp hm' with rfl | hm'
    · exact absurd hm (lt_irrefl _)
    · exact absurd ((List.pairwise_cons.mp (List.pairwise_append.mp horder).2.1).1 m hm') (lt_asymm hm)

/-- A FREE frame in use is found, and the lowest-numbered of them (R93). -/
theorem State.lowestFree_of_free {s : State} {g : FrameNo} (huse : InUse s g)
    (hfree : (s.frames.table.get g).state = .free) :
    ∃ m, s.lowestFree = some m := by
  rw [← Option.isSome_iff_exists, State.lowestFree, List.find?_isSome]
  exact ⟨g, (s.mem_frameNos g).mpr huse, by simpa using hfree⟩

theorem State.lowestFree_iff {s : State} {g : FrameNo} : s.lowestFree = some g ↔ LowestFree s g := by
  refine ⟨State.lowestFree_lowest, fun ⟨huse, hfree, hlower⟩ => ?_⟩
  obtain ⟨m, hm⟩ := State.lowestFree_of_free huse hfree
  obtain ⟨_, hmfree, hmlower⟩ := State.lowestFree_lowest hm
  rcases lt_trichotomy m g with hlt | rfl | hgt
  · exact absurd hmfree (hlower m hlt)
  · exact hm
  · exact absurd hfree (hmlower g hgt)

theorem State.lowestFree_none {s : State} (h : ∀ m, InUse s m → (s.frames.table.get m).state ≠ .free) :
    s.lowestFree = none := by
  rw [State.lowestFree, List.find?_eq_none]
  intro m hm
  simpa using h m ((s.mem_frameNos m).mp hm)

theorem State.countFrames_pos {s : State} (h : 0 < s.countFrames .free) :
    ∃ g, InUse s g ∧ (s.frames.table.get g).state = .free := by
  obtain ⟨g, hg, hfree⟩ := List.countP_pos_iff.mp h
  exact ⟨g, (s.mem_frameNos g).mp hg, by simpa using hfree⟩

/-- Fewer frames are FREE when no frame becomes FREE. -/
theorem State.countFrames_mono {s t : State} (hnF : t.frames.nF = s.frames.nF)
    (hfree : ∀ m, (t.frames.table.get m).state = .free → (s.frames.table.get m).state = .free) :
    t.countFrames .free ≤ s.countFrames .free := by
  unfold State.countFrames State.frameNos
  rw [hnF]
  refine List.countP_mono_left (fun m _ hm => ?_)
  simpa using hfree m (by simpa using hm)

/-- One frame fewer is FREE when one frame leaves FREE. -/
theorem State.countFrames_le_succ {s t : State} (g : FrameNo) (hnF : t.frames.nF = s.frames.nF)
    (hfree : ∀ m, m ≠ g → (s.frames.table.get m).state = .free → (t.frames.table.get m).state = .free) :
    s.countFrames .free ≤ t.countFrames .free + 1 := by
  have hnodup : s.frameNos.Nodup := s.frameNos_ascending.imp (fun h => ne_of_lt h)
  have hsame : t.frameNos = s.frameNos := by rw [State.frameNos, State.frameNos, hnF]
  unfold State.countFrames
  rw [hsame]
  calc s.frameNos.countP (fun m => (s.frames.table.get m).state == .free)
      ≤ s.frameNos.countP (fun m => ((t.frames.table.get m).state == .free) || (m == g)) := by
        refine List.countP_mono_left (fun m _ hm => ?_)
        by_cases hmg : m = g
        · simp [hmg]
        · simpa [hmg] using hfree m hmg (by simpa using hm)
    _ ≤ s.frameNos.countP (fun m => (t.frames.table.get m).state == .free) + s.frameNos.count g := by
        induction s.frameNos with
        | nil => simp
        | cons m ms ih => simp only [List.countP_cons, List.count_cons]; grind
    _ ≤ s.frameNos.countP (fun m => (t.frames.table.get m).state == .free) + 1 :=
        Nat.add_le_add_left (List.nodup_iff_count_le_one.mp hnodup g) _

/-! ### One lane's turn -/

/-- The record of a frame RESERVED for a lane (R89, R99). -/
abbrev reservedRecord (l : LaneNo) : Frame := { Frame.free with state := .reserved, lane := l }

/-- Frame `m` goes RESERVED for lane `l`, and R98 applies to it (R99). -/
def Ev.reservedFor (e : Ev) (l : LaneNo) (m : FrameNo) : Ev :=
  ((e.setFrame m (reservedRecord l)).setLane l { e.lane l with reserved := some m }).cancelWrites m

theorem Ev.mayReserve_iff (e : Ev) (l : LaneNo) : e.mayReserve l = true ↔
    Lacks e.toState l ∧ e.frames.waitQ = [] ∧ e.frames.floor < e.countFrames .free ∧ e.cmd.nextSerial < 2 ^ 48 := by
  have hexhausted : e.exhausted = false ↔ e.cmd.nextSerial < 2 ^ 48 := by
    rw [State.exhausted, decide_eq_false_iff_not, Nat.not_le]
  simp only [Ev.mayReserve, Bool.and_eq_true, bne_iff_ne, Option.isNone_iff_eq_none, List.isEmpty_iff,
    decide_eq_true_eq, Bool.not_eq_true', hexhausted]
  exact ⟨fun ⟨⟨⟨⟨⟨hbound, hopen⟩, hnone⟩, hwait⟩, hcount⟩, hserial⟩ =>
      ⟨⟨hbound, hopen, hnone⟩, hwait, hcount, hserial⟩,
    fun ⟨⟨hbound, hopen, hnone⟩, hwait, hcount, hserial⟩ => ⟨⟨⟨⟨⟨hbound, hopen⟩, hnone⟩, hwait⟩, hcount⟩, hserial⟩⟩

theorem Ev.reserveLane_not {e : Ev} {l : LaneNo} (h : e.mayReserve l = false) : e.reserveLane l = e := by
  unfold Ev.reserveLane
  rw [h]
  rfl

/-- A lane that may be given a reservation is given the lowest-numbered FREE frame (R99). -/
theorem Ev.reserveLane_given {e : Ev} {l : LaneNo} (h : e.mayReserve l = true) :
    ∃ m, LowestFree e.toState m ∧ e.reserveLane l = e.reservedFor l m := by
  obtain ⟨_, _, hcount, _⟩ := (e.mayReserve_iff l).mp h
  obtain ⟨g, huse, hfree⟩ := State.countFrames_pos (Nat.zero_lt_of_lt hcount)
  obtain ⟨m, hm⟩ := State.lowestFree_of_free huse hfree
  refine ⟨m, State.lowestFree_lowest hm, ?_⟩
  unfold Ev.reserveLane
  rw [h, hm]
  rfl

/-- What reservations change: FREE frames go RESERVED, lanes that lack one gain a RESERVED frame, the count of FREE frames
falls no further than to the floor, and unsent writes gain marks (R98, R99). -/
structure Ev.Grows (e e' : Ev) : Prop where
  keeps : e.ReserveFrame e'
  geometry : KeepsGeometry e.toState e'.toState
  frame : ∀ m, e'.frame m = e.frame m
    ∨ (e.frame m).state = .free ∧ ∃ l, e'.frame m = reservedRecord l ∧ (e'.lane l).reserved = some m
  lane : ∀ l, e'.lane l = e.lane l ∨ Lacks e.toState l ∧ ∃ m, e'.lane l = { e.lane l with reserved := some m }
  count : e'.countFrames .free ≤ e.countFrames .free
  floor : e.frames.floor ≤ e.countFrames .free → e.frames.floor ≤ e'.countFrames .free
  marks : ∃ f, Marking f ∧ e'.queue.unsent = e.queue.unsent.map f

theorem Ev.Grows.refl (e : Ev) : e.Grows e where
  keeps := .refl e
  geometry := ⟨rfl, rfl, rfl, rfl, rfl, rfl, rfl⟩
  frame _ := .inl rfl
  lane _ := .inl rfl
  count := le_rfl
  floor h := h
  marks := ⟨id, Marking.id, by simp⟩

theorem KeepsGeometry.trans {s t u : State} (h : KeepsGeometry s t) (h' : KeepsGeometry t u) : KeepsGeometry s u := by
  obtain ⟨hexp, hnF, hfloor, hstraggler, hpreamble, htick, hhold⟩ := h
  obtain ⟨hexp', hnF', hfloor', hstraggler', hpreamble', htick', hhold'⟩ := h'
  exact ⟨hexp'.trans hexp, hnF'.trans hnF, hfloor'.trans hfloor, hstraggler'.trans hstraggler,
    hpreamble'.trans hpreamble, htick'.trans htick, hhold'.trans hhold⟩

theorem Ev.Grows.floor_eq {e e' : Ev} (h : e.Grows e') : e'.frames.floor = e.frames.floor := by
  obtain ⟨_, _, hfloor, _⟩ := h.geometry
  exact hfloor

theorem Ev.Grows.nF_eq {e e' : Ev} (h : e.Grows e') : e'.frames.nF = e.frames.nF := by
  obtain ⟨_, hnF, _⟩ := h.geometry
  exact hnF

/-- No frame becomes FREE by a reservation. -/
theorem Ev.Grows.free_back {e e' : Ev} (h : e.Grows e') {m : FrameNo} (hfree : (e'.frame m).state = .free) :
    (e.frame m).state = .free := by
  rcases h.frame m with hsame | ⟨hwas, _⟩
  · rwa [hsame] at hfree
  · exact hwas

/-- A frame that is not FREE is as it was. -/
theorem Ev.Grows.frame_kept {e e' : Ev} (h : e.Grows e') {m : FrameNo} (hstate : (e.frame m).state ≠ .free) :
    e'.frame m = e.frame m :=
  (h.frame m).resolve_right (fun hfree => hstate hfree.1)

/-- A RESERVED frame stays with its lane. -/
theorem Ev.Grows.reserved_kept {e e' : Ev} (h : e.Grows e') {l : LaneNo} {m : FrameNo}
    (hreserved : (e.lane l).reserved = some m) : (e'.lane l).reserved = some m := by
  rcases h.lane l with hsame | ⟨⟨_, _, hnone⟩, _⟩
  · rwa [hsame]
  · exact absurd (hreserved.symm.trans hnone) (by simp)

/-- All of a lane but its RESERVED frame is as it was. -/
theorem Ev.Grows.lane_keeps {e e' : Ev} (h : e.Grows e') (l : LaneNo) :
    (e'.lane l).binding = (e.lane l).binding ∧ (e'.lane l).openFrame = (e.lane l).openFrame
      ∧ (e'.lane l).lastPlace = (e.lane l).lastPlace := by
  rcases h.lane l with hsame | ⟨_, m, hgiven⟩
  · rw [hsame]; exact ⟨rfl, rfl, rfl⟩
  · rw [hgiven]; exact ⟨rfl, rfl, rfl⟩

/-- A lane that lacks a reservation lacked it before. -/
theorem Ev.Grows.lacks_back {e e' : Ev} (h : e.Grows e') {l : LaneNo} (hlacks : Lacks e'.toState l) :
    Lacks e.toState l := by
  rcases h.lane l with hsame | ⟨hwas, _⟩
  · have hlacks' : (e'.lane l).binding ≠ .unbound ∧ (e'.lane l).openFrame.isSome = true ∧ (e'.lane l).reserved = none :=
      hlacks
    rw [hsame] at hlacks'
    exact hlacks'
  · exact hwas

theorem Ev.Grows.trans {e e' e'' : Ev} (h : e.Grows e') (h' : e'.Grows e'') : e.Grows e'' where
  keeps := h.keeps.trans h'.keeps
  geometry := KeepsGeometry.trans h.geometry h'.geometry
  frame m := by
    rcases h'.frame m with hsame | ⟨hfree, hgiven⟩
    · rw [hsame]
      exact (h.frame m).imp_right (fun ⟨hfree, l, hrecord, hreserved⟩ =>
        ⟨hfree, l, hrecord, h'.reserved_kept hreserved⟩)
    · exact .inr ⟨h.free_back hfree, hgiven⟩
  lane l := by
    rcases h'.lane l with hsame | ⟨hlacks, m, hgiven⟩
    · rw [hsame]; exact h.lane l
    · refine .inr ⟨h.lacks_back hlacks, m, ?_⟩
      rcases h.lane l with hsame | ⟨_, m', hgiven'⟩
      · rw [hgiven, hsame]
      · rw [hgiven, hgiven']
  count := h'.count.trans h.count
  floor hfloor := by
    have hnext := h'.floor
    rw [h.floor_eq] at hnext
    exact hnext (h.floor hfloor)
  marks := by
    obtain ⟨f, hf, hqueue⟩ := h.marks
    obtain ⟨g, hg, hqueue'⟩ := h'.marks
    exact ⟨g ∘ f, hf.comp hg, by rw [hqueue', hqueue, List.map_map]⟩

theorem Ev.reservedFor_frame (e : Ev) (l : LaneNo) (m j : FrameNo) :
    (e.reservedFor l m).frame j = if m = j then reservedRecord l else e.frame j := get_put _ _ _ _

theorem Ev.reservedFor_lane (e : Ev) (l k : LaneNo) (m : FrameNo) :
    (e.reservedFor l m).lane k = if l = k then { e.lane l with reserved := some m } else e.lane k := get_put _ _ _ _

theorem Ev.reserveLane_grows (e : Ev) (l : LaneNo) : e.Grows (e.reserveLane l) := by
  cases hmay : e.mayReserve l with
  | false =>
    rw [Ev.reserveLane_not hmay]
    exact .refl e
  | true =>
    obtain ⟨m, ⟨huse, hfree, _⟩, hgiven⟩ := Ev.reserveLane_given hmay
    obtain ⟨hlacks, _, hcount, _⟩ := (e.mayReserve_iff l).mp hmay
    obtain ⟨htick, hhold, hexp, hnF, hfloor, hstraggler, hpreamble⟩ := e.reserveLane_geometry l
    have hkeeps := e.reserveLane_frame l
    rw [hgiven] at htick hhold hexp hnF hfloor hstraggler hpreamble hkeeps ⊢
    refine ⟨hkeeps, ⟨hexp, hnF, hfloor, hstraggler, hpreamble, htick, hhold⟩, fun j => ?_, fun k => ?_,
      State.countFrames_mono hnF (fun j hj => ?_), fun _ => ?_, ⟨_, Marking.cancelFor m, rfl⟩⟩
    · rw [Ev.reservedFor_frame]
      split
      · next hj =>
        subst hj
        exact .inr ⟨hfree, l, rfl, by rw [Ev.reservedFor_lane, if_pos rfl]⟩
      · exact .inl rfl
    · rw [Ev.reservedFor_lane]
      split
      · next hk => subst hk; exact .inr ⟨hlacks, m, rfl⟩
      · exact .inl rfl
    · have hj' : ((e.reservedFor l m).frame j).state = .free := hj
      rw [Ev.reservedFor_frame] at hj'
      split at hj'
      · cases hj'
      · exact hj'
    · have hone := State.countFrames_le_succ (s := e.toState) (t := (e.reservedFor l m).toState) m hnF
        (fun j hj hjfree => by
          show ((e.reservedFor l m).frame j).state = .free
          rw [Ev.reservedFor_frame, if_neg hj.symm]
          exact hjfree)
      omega

theorem Ev.foldl_reserveLane_grows (ls : List LaneNo) (e : Ev) : e.Grows (ls.foldl Ev.reserveLane e) :=
  foldl_keeps Ev.Grows Ev.Grows.refl Ev.Grows.trans _ Ev.reserveLane_grows ls e

theorem Ev.reserveAll_grows (e : Ev) : e.Grows e.reserveAll := by
  unfold Ev.reserveAll
  split
  · exact e.foldl_reserveLane_grows _
  · exact .refl e

/-- A lane gains a RESERVED frame at its own turn alone. -/
theorem Ev.foldl_reserveLane_otherLane {ls : List LaneNo} {l : LaneNo} (h : l ∉ ls) (e : Ev) :
    (ls.foldl Ev.reserveLane e).lane l = e.lane l := by
  induction ls generalizing e with
  | nil => rfl
  | cons k ks ih =>
    obtain ⟨hk, hks⟩ := List.ne_and_not_mem_of_not_mem_cons h
    rw [List.foldl_cons, ih hks]
    cases hmay : e.mayReserve k with
    | false => rw [Ev.reserveLane_not hmay]
    | true =>
      obtain ⟨m, _, hgiven⟩ := Ev.reserveLane_given hmay
      rw [hgiven, Ev.reservedFor_lane, if_neg (Ne.symm hk)]

/-! ### The turns of all lanes -/

/-- All lanes considered for reservations, in ascending number (R99). -/
def Ev.reserveTurns (e : Ev) : Ev := (List.finRange 32).foldl Ev.reserveLane e

/-- The event when lane `l`'s turn comes. -/
def Ev.turn (e : Ev) (l : LaneNo) : Ev := ((List.finRange 32).take l.val).foldl Ev.reserveLane e

theorem Ev.turn_grows (e : Ev) (l : LaneNo) : e.Grows (e.turn l) := e.foldl_reserveLane_grows _

theorem mem_take_finRange {l k : LaneNo} (h : k ∈ (List.finRange 32).take l.val) : k < l := by
  obtain ⟨i, hi, rfl⟩ := List.mem_take_iff_getElem.mp h
  rw [Fin.lt_def, List.getElem_finRange]
  exact (lt_min_iff.mp hi).1

theorem take_finRange_succ (l : LaneNo) :
    (List.finRange 32).take (l.val + 1) = (List.finRange 32).take l.val ++ [l] := by
  have hl : l.val < (List.finRange 32).length := by simp
  rw [List.take_succ_eq_append_getElem hl, List.getElem_finRange]
  rfl

theorem Ev.turn_lane (e : Ev) (l : LaneNo) : (e.turn l).lane l = e.lane l :=
  Ev.foldl_reserveLane_otherLane (fun h => lt_irrefl l (mem_take_finRange h)) e

/-- After lane `l`'s turn the lanes above it have theirs. -/
theorem Ev.reserveTurns_eq (e : Ev) (l : LaneNo) :
    e.reserveTurns = ((List.finRange 32).drop (l.val + 1)).foldl Ev.reserveLane ((e.turn l).reserveLane l) := by
  have hsplit := List.take_append_drop (l.val + 1) (List.finRange 32)
  rw [take_finRange_succ] at hsplit
  unfold Ev.reserveTurns Ev.turn
  conv_lhs => rw [← hsplit]
  rw [List.foldl_append, List.foldl_append]
  rfl

theorem Ev.reserveTurns_after (e : Ev) (l : LaneNo) : ((e.turn l).reserveLane l).Grows e.reserveTurns := by
  rw [e.reserveTurns_eq l]
  exact Ev.foldl_reserveLane_grows _ _

theorem Ev.reserveTurns_lane (e : Ev) (l : LaneNo) : e.reserveTurns.lane l = ((e.turn l).reserveLane l).lane l := by
  rw [e.reserveTurns_eq l]
  refine Ev.foldl_reserveLane_otherLane (fun h => ?_) _
  have hmem := h
  rw [List.mem_drop_iff_getElem] at hmem
  obtain ⟨i, hi, heq⟩ := hmem
  rw [List.getElem_finRange, Fin.ext_iff] at heq
  simp at heq
  omega

/-- A lower lane's turn comes before. -/
theorem Ev.turn_before (e : Ev) {l' l : LaneNo} (h : l' < l) : ((e.turn l').reserveLane l').Grows (e.turn l) := by
  have hle : l'.val + 1 ≤ l.val := h
  have hsplit := List.take_append_drop (l'.val + 1) ((List.finRange 32).take l.val)
  rw [List.take_take, min_eq_left hle, take_finRange_succ] at hsplit
  have hturn : e.turn l = (((List.finRange 32).take l.val).drop (l'.val + 1)).foldl Ev.reserveLane
      ((e.turn l').reserveLane l') := by
    unfold Ev.turn
    conv_lhs => rw [← hsplit]
    rw [List.foldl_append, List.foldl_append]
    rfl
  rw [hturn]
  exact Ev.foldl_reserveLane_grows _ _

/-- A lane that has gained a RESERVED frame was given it at its turn. -/
theorem Ev.given_at_turn {e : Ev} {l : LaneNo} {m : FrameNo} (hnew : NewReserve e.toState e.reserveTurns.toState l m) :
    (e.turn l).mayReserve l = true ∧ LowestFree (e.turn l).toState m
      ∧ (e.turn l).reserveLane l = (e.turn l).reservedFor l m := by
  obtain ⟨hnot, hnow⟩ := hnew
  have hnow' : (((e.turn l).reserveLane l).lane l).reserved = some m := by
    rw [← e.reserveTurns_lane l]
    exact hnow
  cases hmay : (e.turn l).mayReserve l with
  | false =>
    rw [Ev.reserveLane_not hmay, e.turn_lane l] at hnow'
    exact absurd hnow' hnot
  | true =>
    obtain ⟨g, hlowest, hgiven⟩ := Ev.reserveLane_given hmay
    rw [hgiven, Ev.reservedFor_lane, if_pos rfl] at hnow'
    cases hnow'
    exact ⟨rfl, hlowest, hgiven⟩

/-- A lane that lacks a reservation at the end could be given none at its turn. -/
theorem Ev.lacks_at_turn {e : Ev} {l : LaneNo} (h : Lacks e.reserveTurns.toState l) :
    Lacks (e.turn l).toState l ∧ (e.turn l).mayReserve l = false := by
  refine ⟨(Ev.reserveLane_grows _ l).lacks_back ((e.reserveTurns_after l).lacks_back h), ?_⟩
  cases hmay : (e.turn l).mayReserve l with
  | false => rfl
  | true =>
    obtain ⟨g, _, hgiven⟩ := Ev.reserveLane_given hmay
    obtain ⟨_, _, hnone⟩ := h
    have hnone' : (((e.turn l).reserveLane l).lane l).reserved = none := by
      rw [← e.reserveTurns_lane l]
      exact hnone
    rw [hgiven, Ev.reservedFor_lane, if_pos rfl] at hnone'
    cases hnone'

/-- R99 of the turns of all lanes. -/
theorem Ev.reserveTurns_reserves (e : Ev) : Reserves e.toState e.reserveTurns.toState := by
  have hall : e.Grows e.reserveTurns := e.foldl_reserveLane_grows _
  refine ⟨fun l m hnew => ?_, fun l hlacks hwait hserial => ?_⟩
  · obtain ⟨hmay, ⟨huse, hfree, hlower⟩, hgiven⟩ := Ev.given_at_turn hnew
    obtain ⟨⟨hbound, hopen, _⟩, hwait, hcount, hserial⟩ := ((e.turn l).mayReserve_iff l).mp hmay
    have hbefore := e.turn_grows l
    have hafter := e.reserveTurns_after l
    have hturn := Ev.reserveLane_grows (e.turn l) l
    have hlane := e.reserveTurns_lane l
    rw [hgiven, Ev.reservedFor_lane, if_pos rfl] at hlane
    have hlane' : e.reserveTurns.lanes.table.get l = { (e.turn l).lane l with reserved := some m } := hlane
    have hrecord : ((e.turn l).reserveLane l).frame m = reservedRecord l := by
      rw [hgiven, Ev.reservedFor_frame, if_pos rfl]
    have hfloor := (hturn.trans hafter).floor hcount.le
    rw [← (hturn.trans hafter).floor_eq] at hfloor
    refine ⟨by rw [hlane']; exact hbound, by rw [hlane']; exact hopen,
      (hafter.frame_kept (by rw [hrecord]; simp)).trans hrecord, ?_, fun m' hm' hcontra => ?_, hfloor,
      hall.keeps.waitQ.trans (hbefore.keeps.waitQ.symm.trans hwait), ?_, fun l' hl' hlacks => ?_,
      fun l' m' hl' hnew' => ?_⟩
    · have huse' : m.val < (e.turn l).frames.nF := huse
      rwa [hbefore.nF_eq] at huse'
    · exact hlower m' hm' ((hturn.trans hafter).free_back hcontra)
    · rw [hall.keeps.cmd, ← hbefore.keeps.cmd]
      exact hserial
    · obtain ⟨hlacks', hnot⟩ := Ev.lacks_at_turn hlacks
      have hearlier := (Ev.reserveLane_grows _ l').trans (e.turn_before hl')
      have hwait' : (e.turn l').frames.waitQ = [] := hearlier.keeps.waitQ.symm.trans hwait
      have hserial' : (e.turn l').cmd.nextSerial < 2 ^ 48 := by rw [← hearlier.keeps.cmd]; exact hserial
      have hcount' : (e.turn l').frames.floor < (e.turn l').countFrames .free := by
        rw [← hearlier.floor_eq]
        exact hcount.trans_le hearlier.count
      have hmay' := ((e.turn l').mayReserve_iff l').mpr ⟨hlacks', hwait', hcount', hserial'⟩
      rw [hnot] at hmay'
      cases hmay'
    · obtain ⟨_, ⟨_, _, hlower'⟩, hgiven'⟩ := Ev.given_at_turn hnew'
      have hearlier := (Ev.reserveLane_grows _ l').trans (e.turn_before hl')
      have hmfree : ((e.turn l').frame m).state = .free := hearlier.free_back hfree
      rcases lt_trichotomy m' m with hlt | rfl | hgt
      · exact hlt
      · have hwas := (e.turn_before hl').free_back hfree
        rw [hgiven', Ev.reservedFor_frame, if_pos rfl] at hwas
        cases hwas
      · exact absurd hmfree (hlower' m hgt)
  · obtain ⟨hlacks', hnot⟩ := Ev.lacks_at_turn hlacks
    have hbefore := e.turn_grows l
    have hafter := (Ev.reserveLane_grows _ l).trans (e.reserveTurns_after l)
    by_contra hmany
    have hmany' : e.reserveTurns.frames.floor < e.reserveTurns.countFrames .free := Nat.lt_of_not_le hmany
    have hmay := ((e.turn l).mayReserve_iff l).mpr ⟨hlacks', hafter.keeps.waitQ.symm.trans hwait,
      by rw [← hafter.floor_eq]; exact hmany'.trans_le hafter.count, by rw [← hafter.keeps.cmd]; exact hserial⟩
    rw [hnot] at hmay
    cases hmay

/-! ### What the end of an event leaves -/

theorem Ev.finish_frames_eq (e : Ev) : e.finish.frames = e.reserveAll.frames := by
  show e.reserveAll.waitNotice.frames = _
  rw [Ev.waitNotice_toState]

theorem Ev.finish_lanes_eq (e : Ev) : e.finish.lanes = e.reserveAll.lanes := by
  show e.reserveAll.waitNotice.lanes = _
  rw [Ev.waitNotice_toState]

/-- The writes in the queue may have gained marks, and held own writes may stand behind them (R13, R98). -/
theorem Ev.finish_unsent_marked (e : Ev) : ∃ (f : Entry → Entry) (later : List OwnWrite), Marking f
    ∧ e.finish.queue.unsent = e.queue.unsent.map f ++ later.map (fun w => w.entry none) := by
  obtain ⟨f, hf, hqueue⟩ := e.reserveAll_grows.marks
  have hunsent : e.reserveAll.waitNotice.queue.unsent = e.queue.unsent.map f := by
    rw [Ev.waitNotice_toState, hqueue]
  obtain ⟨later, hlater⟩ : ∃ later : List OwnWrite,
      e.finish.queue.unsent = e.reserveAll.waitNotice.queue.unsent ++ later.map (fun w => w.entry none) := ⟨_, rfl⟩
  exact ⟨f, later, hf, by rw [hlater, hunsent]⟩

/-- The queue of an event that takes a write and may make reservations (R12, R13, R98). -/
theorem Ev.accept_tookUnmarked {s : State} {e : Ev} (hqueue : e.queue = s.queue) (hout : e.linkOut = [])
    (hstore : e.storeOut = []) (r : Requester) {x : Entry} (hx : x.cancelled = false) (own : List OwnWrite) :
    TookUnmarked s (e.acceptWrite r x own).finish r x own := by
  obtain ⟨f, later, hf, hunsent⟩ := Ev.finish_unsent_marked (e.acceptWrite r x own)
  have hx' : unmarked x = x := by rw [unmarked, ← hx]
  have haccept : (e.acceptWrite r x own).queue.unsent
      = s.queue.unsent ++ x :: own.map (fun w => w.entry (some r)) := by rw [← hqueue]; rfl
  refine ⟨⟨later, ?_⟩, ?_, ?_, ?_, ?_, ?_⟩
  · rw [hunsent, haccept, List.map_append, hf.map_unmarked]
    simp only [List.map_append, List.map_cons, List.map_map, hx']
    rfl
  · rw [Ev.finish_sent, ← hqueue]; rfl
  · rw [Ev.finish_reads, ← hqueue]; rfl
  · rw [Ev.finish_probes, ← hqueue]; rfl
  · rw [Ev.finish_linkOut]
    show e.linkOut ++ _ = _
    rw [hout]; rfl
  · rw [Ev.finish_storeOut, ← hstore]; rfl

/-- R99 of an event that considers reservations (R99), from a state before it that held no fewer RESERVED frames. -/
theorem Ev.finish_reserves {s : State} {e : Ev} (hdue : e.reserveDue = true) (hnF : e.frames.nF = s.frames.nF)
    (hback : ∀ l m, (e.lane l).reserved = some m → (s.lanes.table.get l).reserved = some m) : Reserves s e.finish := by
  have hall : e.reserveAll = e.reserveTurns := by
    unfold Ev.reserveAll
    rw [hdue]
    rfl
  have hframes : e.finish.frames = e.reserveTurns.frames := by rw [e.finish_frames_eq, hall]
  have hlanes : e.finish.lanes = e.reserveTurns.lanes := by rw [e.finish_lanes_eq, hall]
  have hcmd : e.finish.cmd = e.reserveTurns.cmd := by rw [e.finish_cmd, ← hall, e.reserveAll_frame.cmd]
  have hcount : e.finish.countFrames .free = e.reserveTurns.countFrames .free := by
    unfold State.countFrames State.frameNos
    rw [hframes]
  have hnew {l : LaneNo} {m : FrameNo} (h : NewReserve s e.finish l m) :
      NewReserve e.toState e.reserveTurns.toState l m := by
    refine ⟨fun hcontra => h.1 (hback l m hcontra), ?_⟩
    rw [← hlanes]
    exact h.2
  obtain ⟨hgiven, hlacking⟩ := e.reserveTurns_reserves
  refine ⟨fun l m h => ?_, fun l hlacks => ?_⟩
  · obtain ⟨hbound, hopen, hrecord, huse, hlower, hfloor, hwait, hserial, hlacks, horder⟩ := hgiven l m (hnew h)
    have huse' : m.val < e.frames.nF := huse
    rw [hnF] at huse'
    rw [hlanes, hframes, hcmd, hcount]
    refine ⟨hbound, hopen, hrecord, huse', hlower, hfloor, hwait, hserial, fun l' hl' hlacks' => hlacks l' hl' ?_,
      fun l' m' hl' h' => horder l' m' hl' (hnew h')⟩
    unfold Lacks at hlacks'
    rwa [hlanes] at hlacks'
  · unfold Lacks at hlacks
    rw [hlanes] at hlacks
    rw [hframes, hcmd, hcount]
    exact hlacking l hlacks

end Sys2Proof.Machine
end

section
/-! SUPPORT. A lane that loses its OPEN frame, and the slots that wait for it (R84, R85, R110, R116, R118). -/

namespace Sys2Proof.Machine

open Sys2Proof.Safety

/-! ### A lane's OPEN frame closed -/

/-- What the closing of lane `l`'s OPEN frame, if it holds one, has made of an event (R110, R116, R118). -/
structure Ev.ClosedLane (l : LaneNo) (reason : SealReason) (e e' : Ev) : Prop where
  keeps : e.ClosingFrame e'
  slots : e'.slots = e.slots
  lanes : e'.lanes = { e.lanes with table := put e.lanes.table l { e.lane l with openFrame := none } }
  other : ∀ j, (e.lane l).openFrame ≠ some j → e'.frame j = e.frame j
  inFlight : ∀ n, (e.lane l).openFrame = some n → (e.frame n).inFlight ≠ 0 →
    e'.frame n = e.closingRecord n reason ∧ e'.copy = e.copy ∧ e'.made = e.made
  sealed : ∀ n, (e.lane l).openFrame = some n → (e.frame n).inFlight = 0 →
    e'.frame n = sealingRecord e.copy (e.closingRecord n reason) ∧ e'.copy = e.copy.advance
      ∧ e'.made = e.made ++ [e.sealHeaderWrite n (sealingRecord e.copy (e.closingRecord n reason))]
  idle : (e.lane l).openFrame = none → e'.copy = e.copy ∧ e'.made = e.made

/-- Lane `l` holds its OPEN frame, if it has one, as the frame's record says. -/
abbrev OpenIsHeld (s : State) (l : LaneNo) : Prop := ∀ n, (s.lanes.table.get l).openFrame = some n → HoldsOpen s l n

theorem Ev.closeFrame_closed {e : Ev} {l : LaneNo} {n : FrameNo} (h : HoldsOpen e.toState l n) (reason : SealReason) :
    e.ClosedLane l reason (e.closeFrame n reason) := by
  let closing : Ev := (e.setFrame n (e.closingRecord n reason)).setLane l { e.lane l with openFrame := none }
  have hclose : e.closeFrame n reason = closing.sealIfEmpty n := by rw [Ev.closeFrame, Ev.toClosing_held h]
  have hkeeps := closing.sealIfEmpty_keeps n
  have hrecord : closing.frame n = e.closingRecord n reason := get_put_same _ _ _
  have hopen : (e.lane l).openFrame = some n := h.1
  have only {m : FrameNo} (hm : (e.lane l).openFrame = some m) : m = n := by
    rw [hopen] at hm
    exact (Option.some.inj hm).symm
  refine ⟨e.closeFrame_closingFrame n reason, by rw [hclose, hkeeps.slots]; rfl, by rw [hclose, hkeeps.lanes]; rfl,
    fun j hj => e.closeFrame_otherFrame (fun hjn => hj (by rw [hjn, hopen])) reason, fun m hm hflight => ?_,
    fun m hm hflight => ?_, fun hnone => absurd (hopen.symm.trans hnone) (by simp)⟩
  · obtain rfl := only hm
    have hnot : ¬closing.sealDue m := fun hdue => by
      have hzero := hdue.2
      rw [hrecord] at hzero
      exact hflight hzero
    rw [hclose, Ev.sealIfEmpty_not_due hnot]
    exact ⟨hrecord, rfl, rfl⟩
  · obtain rfl := only hm
    have hdue : closing.sealDue m := by
      rw [Ev.sealDue, hrecord]
      exact ⟨rfl, hflight⟩
    rw [hclose, Ev.sealIfEmpty_due hdue]
    refine ⟨by rw [Ev.beginSeal_frame, hrecord]; rfl, rfl, ?_⟩
    rw [Ev.beginSeal_made, hrecord]
    rfl

theorem Ev.closeLane_closed {e : Ev} {l : LaneNo} (h : OpenIsHeld e.toState l) (reason : SealReason) :
    e.ClosedLane l reason (e.closeLane l reason) := by
  unfold Ev.closeLane
  split
  · next n hopen => exact Ev.closeFrame_closed (h n hopen) reason
  · next hnone =>
    have hlane : { e.lane l with openFrame := none } = e.lane l := by rw [← hnone]
    refine ⟨.refl e, rfl, ?_, fun _ _ => rfl, fun n hn => ?_, fun n hn => ?_, fun _ => ⟨rfl, rfl⟩⟩
    · rw [hlane]
      show e.lanes = { e.lanes with table := put e.lanes.table l (e.lanes.table.get l) }
      rw [put_get_self]
    · exact absurd (hnone.symm.trans hn) (by simp)
    · exact absurd (hnone.symm.trans hn) (by simp)

/-- The closing of a lane's OPEN frame makes no own write but a seal header. -/
theorem Ev.ClosedLane.made_isSeal {l : LaneNo} {reason : SealReason} {e e' : Ev} (h : e.ClosedLane l reason e')
    (hmade : e.made = []) : ∀ w ∈ e'.made, w.isSeal = true := by
  intro w hw
  cases hopen : (e.lane l).openFrame with
  | none =>
    rw [(h.idle hopen).2, hmade] at hw
    cases hw
  | some n =>
    by_cases hflight : (e.frame n).inFlight = 0
    · obtain ⟨_, _, hseal⟩ := h.sealed n hopen hflight
      rw [hseal, hmade, List.nil_append, List.mem_singleton] at hw
      rw [hw]
      rfl
    · obtain ⟨_, _, hnone⟩ := h.inFlight n hopen hflight
      rw [hnone, hmade] at hw
      cases hw

/-- The states of the frames that are FREE are those from before the closing. -/
theorem Ev.ClosedLane.free_iff {l : LaneNo} {reason : SealReason} {e e' : Ev} (h : e.ClosedLane l reason e')
    (hheld : OpenIsHeld e.toState l) (j : FrameNo) : (e'.frame j).state = .free ↔ (e.frame j).state = .free := by
  by_cases hopen : (e.lane l).openFrame = some j
  · obtain ⟨_, hstate, _⟩ := hheld j hopen
    have hbefore : (e.frame j).state = .opened := hstate
    by_cases hflight : (e.frame j).inFlight = 0
    · rw [(h.sealed j hopen hflight).1, hbefore]
      simp
    · rw [(h.inFlight j hopen hflight).1, hbefore]
      simp [Ev.closingRecord]
  · rw [h.other j hopen]

/-- A seal's header is made of the record and of values that a step with the same bridge time keeps (R119). -/
theorem sealHeaderWrite_eq {s t : State} (hdecoder : t.decoder = s.decoder) (hexp : t.frames.exp = s.frames.exp)
    (hpreamble : t.frames.preamble = s.frames.preamble) (htime : t.cmd.bridgeTime = s.cmd.bridgeTime) (n : FrameNo)
    (f : Frame) : t.sealHeaderWrite n f = s.sealHeaderWrite n f := by
  simp only [State.sealHeaderWrite, State.headerBytes, State.frameBase, State.frameSize, hdecoder, hexp, hpreamble,
    htime]

/-- What stands at the end of a step in which lane `l`'s OPEN frame was closed and then left alone. -/
theorem Ev.ClosedLane.closesLane {s t : State} {l : LaneNo} {reason : SealReason} {e' : Ev}
    (h : (Ev.start s.clearOut).ClosedLane l reason e')
    (hframe : ∀ n, (s.lanes.table.get l).openFrame = some n → t.frames.table.get n = e'.frame n) (hcopy : t.copy = e'.copy)
    (hmade : ∀ w ∈ e'.made, Made t w) (hdecoder : t.decoder = s.decoder) (hexp : t.frames.exp = s.frames.exp)
    (hpreamble : t.frames.preamble = s.frames.preamble) (htime : t.cmd.bridgeTime = s.cmd.bridgeTime) :
    ClosesLane s t l reason := by
  refine ⟨fun n hopen => ⟨fun hflight => ?_, fun hflight => ?_⟩, fun hnone => hcopy.trans (h.idle hnone).1⟩
  · obtain ⟨hrecord, hsame, _⟩ := h.inFlight n hopen hflight
    exact ⟨(hframe n hopen).trans hrecord, hcopy.trans hsame⟩
  · obtain ⟨hrecord, hadvance, hseal⟩ := h.sealed n hopen hflight
    have hrecord' := (hframe n hopen).trans hrecord
    refine ⟨hrecord', hcopy.trans hadvance, ?_⟩
    rw [hrecord', sealHeaderWrite_eq hdecoder hexp hpreamble htime]
    refine hmade _ ?_
    rw [hseal]
    exact List.mem_append_right _ List.mem_cons_self

/-! ### The slots that wait for a lane -/

/-- One slot of the frame-wait queue, if it waits for lane `l`, recorded as waiting for lane 0 (R84, R85). -/
def Ev.moveWaiter (l : LaneNo) (e : Ev) (k : SlotNo) : Ev :=
  match e.slot k with
  | .waiting f c m => if m = l then e.setSlot k (.waiting f c 0) else e
  | _ => e

theorem Ev.moveWaiters_foldl (e : Ev) (l : LaneNo) : e.moveWaiters l = e.frames.waitQ.foldl (Ev.moveWaiter l) e := rfl

/-- A slot's entry after the slots of `ks` that wait for lane `l` wait for lane 0. -/
def movedAmong (ks : List SlotNo) (l : LaneNo) (j : SlotNo) (x : SlotEntry) : SlotEntry :=
  match x with
  | .waiting f c m => .waiting f c (if j ∈ ks ∧ m = l then 0 else m)
  | x => x

theorem movedWaiter_eq (s : State) (l : LaneNo) (j : SlotNo) :
    movedWaiter s l j = movedAmong s.frames.waitQ l j (s.slots.table.get j) := by
  unfold movedWaiter movedAmong
  cases s.slots.table.get j <;> rfl

theorem movedAmong_nil (l : LaneNo) (j : SlotNo) (x : SlotEntry) : movedAmong [] l j x = x := by
  cases x <;> simp [movedAmong]

theorem movedAmong_cons (k : SlotNo) (ks : List SlotNo) (l : LaneNo) (j : SlotNo) (x : SlotEntry) :
    movedAmong ks l j (movedAmong [k] l j x) = movedAmong (k :: ks) l j x := by
  cases x with
  | waiting f c m =>
    simp only [movedAmong, List.mem_cons]
    grind
  | idle | lookup _ | filling _ _ _ _ => rfl

theorem Ev.moveWaiter_eq (e : Ev) (l : LaneNo) (k : SlotNo) :
    ∃ table, e.moveWaiter l k = { e with slots := { table := table } }
      ∧ ∀ j, table.get j = movedAmong [k] l j (e.slot j) := by
  have hself (h : ∀ f c m, e.slot k = .waiting f c m → m ≠ l) :
      ∀ j, e.slots.table.get j = movedAmong [k] l j (e.slot j) := by
    intro j
    show e.slot j = _
    cases hslot : e.slot j with
    | waiting f c m =>
      have hnot : ¬(j ∈ [k] ∧ m = l) := by
        rintro ⟨hj, hm⟩
        obtain rfl := List.mem_singleton.mp hj
        exact h f c m hslot hm
      rw [movedAmong, if_neg hnot]
    | idle | lookup _ | filling _ _ _ _ => rfl
  unfold Ev.moveWaiter
  split
  · next f c m hslot =>
    split
    · next hm =>
      refine ⟨put e.slots.table k (.waiting f c 0), rfl, fun j => ?_⟩
      rw [get_put]
      split
      · next hj =>
        subst hj
        rw [hslot, movedAmong, if_pos ⟨List.mem_singleton_self _, hm⟩]
      · next hj =>
        show e.slot j = _
        cases e.slot j with
        | waiting f' c' m' => rw [movedAmong, if_neg (fun hmem => hj (List.mem_singleton.mp hmem.1).symm)]
        | idle | lookup _ | filling _ _ _ _ => rfl
    · next hm =>
      refine ⟨e.slots.table, rfl, hself (fun f' c' m' hslot' => ?_)⟩
      rw [hslot] at hslot'
      cases hslot'
      exact hm
  · next hother =>
    exact ⟨e.slots.table, rfl, hself (fun f c m hslot => absurd hslot (hother f c m))⟩

theorem Ev.foldl_moveWaiter_eq (ks : List SlotNo) (l : LaneNo) (e : Ev) :
    ∃ table, ks.foldl (Ev.moveWaiter l) e = { e with slots := { table := table } }
      ∧ ∀ j, table.get j = movedAmong ks l j (e.slot j) := by
  induction ks generalizing e with
  | nil => exact ⟨e.slots.table, rfl, fun j => (movedAmong_nil l j _).symm⟩
  | cons k ks ih =>
    obtain ⟨first, hfirst, hget⟩ := e.moveWaiter_eq l k
    obtain ⟨table, htable, hget'⟩ := ih { e with slots := { table := first } }
    refine ⟨table, by rw [List.foldl_cons, hfirst, htable], fun j => ?_⟩
    rw [hget' j, ← movedAmong_cons k ks, ← hget j]
    rfl

/-- The slots that wait for lane `l` wait for lane 0 afterwards, and nothing else changes (R84, R85). -/
theorem Ev.moveWaiters_eq (e : Ev) (l : LaneNo) :
    ∃ table, e.moveWaiters l = { e with slots := { table := table } }
      ∧ ∀ j, table.get j = movedWaiter e.toState l j := by
  obtain ⟨table, htable, hget⟩ := Ev.foldl_moveWaiter_eq e.frames.waitQ l e
  exact ⟨table, (e.moveWaiters_foldl l).trans htable, fun j => (hget j).trans (movedWaiter_eq e.toState l j).symm⟩

/-- With no slot waiting none is moved. -/
theorem Ev.moveWaiters_none {e : Ev} (h : e.frames.waitQ = []) (l : LaneNo) : e.moveWaiters l = e := by
  rw [Ev.moveWaiters_foldl, h]
  rfl

theorem movedWaiter_none {s : State} (h : s.frames.waitQ = []) (l : LaneNo) (j : SlotNo) :
    movedWaiter s l j = s.slots.table.get j := by
  rw [movedWaiter_eq, h, movedAmong_nil]

end Sys2Proof.Machine
end

section
/-! SUPPORT. A lane unbound without being rebound (R85), and the obligation on UNREGISTER and REGISTER of a tag bound to a
lane (R80, R81). -/

namespace Sys2Proof.Machine

open Sys2Proof.Safety

theorem Ev.ClosingFrame.waitQ {e e' : Ev} (h : e.ClosingFrame e') : e'.frames.waitQ = e.frames.waitQ := by
  obtain ⟨table, htable⟩ := h.frames
  rw [htable]

theorem Ev.ClosingFrame.geometry {e e' : Ev} (h : e.ClosingFrame e') : KeepsGeometry e.toState e'.toState := by
  obtain ⟨frames, hframes⟩ := h.frames
  obtain ⟨lanes, hlanes⟩ := h.lanes
  rw [KeepsGeometry, hframes, hlanes]
  exact ⟨rfl, rfl, rfl, rfl, rfl, rfl, rfl⟩

theorem Ev.ClosingFrame.sameWait {e e' : Ev} (h : e.ClosingFrame e') (hsame : e.sameWait) : e'.sameWait := by
  rw [Ev.sameWait, h.waitWasEmpty, h.waitQ]
  exact hsame

/-! ### The lane's RESERVED frame returned -/

theorem Ev.returnReserved_none {e : Ev} {l : LaneNo} (h : (e.lane l).reserved = none) : e.returnReserved l = e := by
  unfold Ev.returnReserved
  rw [h]

theorem Ev.returnReserved_some {e : Ev} {l : LaneNo} {m : FrameNo} (h : (e.lane l).reserved = some m) :
    e.returnReserved l = (e.setLane l { e.lane l with reserved := none }).freeFrame m := by
  unfold Ev.returnReserved
  rw [h]

theorem Ev.returnReserved_lanes (e : Ev) (l : LaneNo) :
    (e.returnReserved l).lanes = { e.lanes with table := put e.lanes.table l { e.lane l with reserved := none } } := by
  cases h : (e.lane l).reserved with
  | none =>
    have hlane : { e.lane l with reserved := none } = e.lanes.table.get l := by rw [← h]; rfl
    rw [Ev.returnReserved_none h, hlane, put_get_self]
  | some m =>
    rw [Ev.returnReserved_some h]
    rfl

/-- What the return of a lane's RESERVED frame leaves: all but the frame's record, the lane, and whether R99 is due. -/
theorem Ev.returnReserved_closingFrame (e : Ev) (l : LaneNo) :
    e.ClosingFrame { e.returnReserved l with reserveDue := e.reserveDue } := by
  cases h : (e.lane l).reserved with
  | none => rw [Ev.returnReserved_none h]; exact .refl e
  | some m =>
    rw [Ev.returnReserved_some h]
    exact ⟨rfl, rfl, rfl, rfl, rfl, rfl, rfl, rfl, rfl, rfl, rfl, rfl, rfl, ⟨_, rfl⟩, ⟨_, rfl⟩⟩

theorem Ev.returnReserved_parts (e : Ev) (l : LaneNo) : (e.returnReserved l).slots = e.slots
    ∧ (e.returnReserved l).copy = e.copy ∧ (e.returnReserved l).made = e.made := by
  cases h : (e.lane l).reserved with
  | none => rw [Ev.returnReserved_none h]; exact ⟨rfl, rfl, rfl⟩
  | some m => rw [Ev.returnReserved_some h]; exact ⟨rfl, rfl, rfl⟩

/-! ### A lane unbound -/

/-- An entry without its lane, if it is the entry of tag `old` (R84, R85). -/
def CollEntry.withoutLane (old : Tag) (x : CollEntry) : CollEntry := if x.tag = old then { x with lane := none } else x

theorem CollEntry.withoutLane_tag (old : Tag) (x : CollEntry) : (x.withoutLane old).tag = x.tag := by
  unfold CollEntry.withoutLane
  split <;> rfl

theorem CollEntry.withoutLane_other {old : Tag} {x : CollEntry} (h : x.tag ≠ old) : x.withoutLane old = x := if_neg h

/-- Once the entry of the unbound tag is taken out, the entries are as they were. -/
theorem filter_withoutLane (old : Tag) (l : List CollEntry) :
    (l.map (CollEntry.withoutLane old)).filter (fun y => y.tag != old) = l.filter (fun y => y.tag != old) := by
  rw [List.filter_map]
  have htest : (fun y : CollEntry => y.tag != old) ∘ CollEntry.withoutLane old = fun y => y.tag != old := by
    funext y
    simp [CollEntry.withoutLane_tag]
  rw [htest]
  conv_rhs => rw [← List.map_id (l.filter _)]
  refine List.map_congr_left (fun y hy => CollEntry.withoutLane_other ?_)
  simpa using (List.mem_filter.mp hy).2

/-- The steps of R85: the OPEN frame closed, the RESERVED frame returned, the waiters moved, the lane cleared, the entry
of its tag left without a lane. -/
theorem Ev.unbindLane_eq {e : Ev} {l : LaneNo} {old : Tag} {c : ClassNo} {reason : SealReason}
    (hbound : (e.lane l).binding = .collection old c) (hclosed : e.ClosedLane l reason (e.closeLane l reason)) :
    ∃ slots, e.unbindLane l reason = { (e.closeLane l reason).returnReserved l with
        slots := { table := slots }
        lanes := { e.lanes with table := put e.lanes.table l Lane.unbound }
        coll := { e.coll with entries := e.coll.entries.map (CollEntry.withoutLane old) } }
      ∧ ∀ j, slots.get j = movedWaiter e.toState l j := by
  have hold : (e.lane l).tag = old := by rw [Lane.tag, hbound]
  unfold Ev.unbindLane
  dsimp only
  rw [hold]
  generalize e.closeLane l reason = closed at hclosed ⊢
  have hreturn := closed.returnReserved_closingFrame l
  have hcoll : (closed.returnReserved l).coll = e.coll := hreturn.coll.trans hclosed.keeps.coll
  have hlanes : (closed.returnReserved l).lanes
      = { e.lanes with table := put e.lanes.table l { e.lane l with openFrame := none, reserved := none } } := by
    rw [Ev.returnReserved_lanes, Ev.lane, hclosed.lanes]
    simp [put_put]
  have hslots : (closed.returnReserved l).slots = e.slots := (closed.returnReserved_parts l).1.trans hclosed.slots
  have hwaitQ : (closed.returnReserved l).frames.waitQ = e.frames.waitQ := hreturn.waitQ.trans hclosed.keeps.waitQ
  obtain ⟨table, htable, hget⟩ := (closed.returnReserved l).moveWaiters_eq l
  refine ⟨table, ?_, fun j => ?_⟩
  · rw [htable]
    simp only [Ev.bindEntry, Ev.setEntries, Ev.setLane, Ev.lane, hlanes, hcoll, put_put, get_put_same]
    rfl
  · rw [hget j, movedWaiter_eq, movedWaiter_eq, hslots, hwaitQ]

/-- What an event that unbinds lane `l` has made of the state, the collection entries and the notices apart (R85). -/
structure Ev.Unbinds (s : State) (l : LaneNo) (reason : SealReason) (e : Ev) : Prop where
  link : e.KeepsLink s
  cmd : e.cmd = s.cmd
  notes : e.notes = s.notes
  sameWait : e.sameWait
  due : e.reserveDue = (s.lanes.table.get l).reserved.isSome
  waitQ : e.frames.waitQ = s.frames.waitQ
  geometry : KeepsGeometry s e.toState
  lanes : e.lanes.table = put s.lanes.table l Lane.unbound
  slots : ∀ j, e.slots.table.get j = movedWaiter s l j
  closing : ∃ e' : Ev, (Ev.start s.clearOut).ClosedLane l reason e' ∧ e.copy = e'.copy ∧ e.made = e'.made
    ∧ ∀ j, e.frame j = if (s.lanes.table.get l).reserved = some j then Frame.free else e'.frame j

theorem Ev.unbindLane_unbinds {s : State} {l : LaneNo} {old : Tag} {c : ClassNo} (hheld : OpenIsHeld s l)
    (hbound : (s.lanes.table.get l).binding = .collection old c) (reason : SealReason) :
    ((Ev.start s.clearOut).unbindLane l reason).Unbinds s l reason
      ∧ ((Ev.start s.clearOut).unbindLane l reason).coll
        = { s.coll with entries := s.coll.entries.map (CollEntry.withoutLane old) }
      ∧ ((Ev.start s.clearOut).unbindLane l reason).posted = [] := by
  have hclosed := Ev.closeLane_closed (e := Ev.start s.clearOut) hheld reason
  obtain ⟨slots, hunbind, hslots⟩ := Ev.unbindLane_eq (e := Ev.start s.clearOut) hbound hclosed
  rw [hunbind]
  generalize (Ev.start s.clearOut).closeLane l reason = closed at hclosed
  have hreserved : (closed.lane l).reserved = (s.lanes.table.get l).reserved := by
    rw [Ev.lane, hclosed.lanes]
    exact (congrArg Lane.reserved (get_put_same s.lanes.table l { s.lanes.table.get l with openFrame := none })).trans rfl
  have hkeeps := hclosed.keeps.trans (closed.returnReserved_closingFrame l)
  obtain ⟨_, hcopy, hmade⟩ := closed.returnReserved_parts l
  have hdue : (closed.returnReserved l).reserveDue = (s.lanes.table.get l).reserved.isSome := by
    rw [← hreserved]
    cases h : (closed.lane l).reserved with
    | none => rw [Ev.returnReserved_none h]; exact hclosed.keeps.reserveDue
    | some m => rw [Ev.returnReserved_some h]; rfl
  have hframe (j : FrameNo) : (closed.returnReserved l).frame j
      = if (s.lanes.table.get l).reserved = some j then Frame.free else closed.frame j := by
    rw [← hreserved]
    cases h : (closed.lane l).reserved with
    | none => rw [Ev.returnReserved_none h, if_neg (by simp)]
    | some m =>
      rw [Ev.returnReserved_some h]
      show (put closed.frames.table m Frame.free).get j = _
      rw [get_put]
      simp only [Option.some.injEq]
      rfl
  refine ⟨⟨⟨hkeeps.loader, hkeeps.decoder, hkeeps.port, hkeeps.pending, hkeeps.queue, hkeeps.linkOut, hkeeps.storeOut⟩,
    hkeeps.cmd, hkeeps.notes, hkeeps.sameWait rfl, hdue, hkeeps.waitQ, ?_, rfl, hslots, closed, hclosed,
    hcopy, hmade, hframe⟩, rfl, hkeeps.posted⟩
  obtain ⟨hexp, hnF, hfloor, hstraggler, hpreamble, _, _⟩ := hkeeps.geometry
  exact ⟨hexp, hnF, hfloor, hstraggler, hpreamble, rfl, rfl⟩

/-- The entries and the notices are no part of what `Ev.Unbinds` says. -/
theorem Ev.Unbinds.with {s : State} {l : LaneNo} {reason : SealReason} {e : Ev} (h : e.Unbinds s l reason)
    (coll : Collections) (posted : List (Poster × Notice)) :
    { e with coll := coll, posted := posted }.Unbinds s l reason := by
  obtain ⟨⟨hloader, hdecoder, hport, hpending, hqueue, hlink, hstore⟩, hcmd, hnotes, hsame, hdue, hwaitQ, hgeometry,
    hlanes, hslots, hclosing⟩ := h
  exact ⟨⟨hloader, hdecoder, hport, hpending, hqueue, hlink, hstore⟩, hcmd, hnotes, hsame, hdue, hwaitQ, hgeometry,
    hlanes, hslots, hclosing⟩

theorem vector_eq_of_get {α : Type} {n : Nat} {v w : Vector α n} (h : ∀ i, v.get i = w.get i) : v = w :=
  Vector.ext (fun i hi => h ⟨i, hi⟩)

section
variable {s t : State} {r : Requester} {addr : UpAddr} {d : List Byte} {cell : CellNo} {l : LaneNo} {reason : SealReason}
  {e : Ev} {n : Nat}

theorem Ev.Unbinds.lane (h : e.Unbinds s l reason) (k : LaneNo) :
    e.lane k = if l = k then Lane.unbound else s.lanes.table.get k := by
  rw [Ev.lane, h.lanes, get_put]

/-- The frames other than the lane's are as they were. -/
theorem Ev.Unbinds.otherFrame (h : e.Unbinds s l reason) {j : FrameNo} (hopen : (s.lanes.table.get l).openFrame ≠ some j)
    (hreserved : (s.lanes.table.get l).reserved ≠ some j) : e.frame j = s.frames.table.get j := by
  obtain ⟨e', hclosed, _, _, hframe⟩ := h.closing
  rw [hframe j, if_neg hreserved]
  exact hclosed.other j hopen

/-- What stands after the step of the lane's OPEN frame and of the copy pattern. -/
theorem Ev.Unbinds.closesLane (h : e.Unbinds s l reason)
    (hreserved : ∀ j, (s.lanes.table.get l).openFrame = some j → (s.lanes.table.get l).reserved ≠ some j)
    (hframe : ∀ j, (s.lanes.table.get l).openFrame = some j → t.frames.table.get j = e.frame j) (hcopy : t.copy = e.copy)
    (hmade : ∀ w ∈ e.made, Made t w) (hdecoder : t.decoder = s.decoder) (hgeometry : KeepsGeometry s t)
    (hcmd : t.cmd = s.cmd) : ClosesLane s t l reason := by
  obtain ⟨e', hclosed, hcopy', hmade', hframe'⟩ := h.closing
  obtain ⟨hexp, _, _, _, hpreamble, _, _⟩ := hgeometry
  refine hclosed.closesLane (fun j hj => ?_) (hcopy.trans hcopy') (fun w hw => hmade w (hmade' ▸ hw)) hdecoder hexp
    hpreamble (by rw [hcmd])
  rw [hframe j hj, hframe' j, if_neg (hreserved j hj)]

/-- The command that unbinds a lane that holds no RESERVED frame. -/
theorem Ev.Unbinds.commanded (h : e.Unbinds s l reason) (hnone : (s.lanes.table.get l).reserved = none)
    (ht : t = (e.acceptWrite r (cellEntry s r addr d cell) [cellStatus e.toState cell d (cmdDone n)]).finish) :
    Commanded s t r addr d cell .done (le 8 n) ∧ t.lanes.table.get l = Lane.unbound ∧ ClosesOnly s t l reason
      ∧ (∀ j : SlotNo, t.slots.table.get j = movedWaiter s l j)
      ∧ (∀ m : LaneNo, m ≠ l → t.lanes.table.get m = s.lanes.table.get m) ∧ t.cmd = s.cmd ∧ KeepsGeometry s t := by
  have hnone' (j : FrameNo) : (s.lanes.table.get l).reserved ≠ some j := by rw [hnone]; simp
  have hdue : e.reserveDue = false := by rw [h.due, hnone]; rfl
  have hreserves : e.reservesNone := .inl (Ev.noReservation_of_same hdue h.sameWait)
  obtain ⟨hcommanded, hleft⟩ := Ev.accept_commanded h.link hreserves r addr d cell (cmdDone n) ht
  have hmade : ∀ w ∈ e.made, Made t w := fun w hw => by rw [ht]; exact Ev.finish_made hw
  have hgeometry : KeepsGeometry s t := by
    rw [KeepsGeometry, hleft.frames, hleft.lanes]
    exact h.geometry
  have hcmd := hleft.cmd.trans h.cmd
  refine ⟨hcommanded, ?_, ⟨?_, fun j hj => ?_, ?_⟩, fun j => ?_, fun m hm => ?_, hcmd, hgeometry⟩
  · rw [hleft.lanes]
    exact (h.lane l).trans (if_pos rfl)
  · exact h.closesLane (fun j _ => hnone' j) (fun j _ => by rw [hleft.frames]; rfl) hleft.copy hmade
      (hleft.decoder.trans h.link.decoder) hgeometry hcmd
  · rw [hleft.frames]
    exact h.otherFrame hj (hnone' j)
  · rw [hleft.frames]
    exact h.waitQ
  · rw [hleft.slots]
    exact h.slots j
  · rw [hleft.lanes]
    exact (h.lane m).trans (if_neg hm.symm)

/-- The command that unbinds a lane with a RESERVED frame, with no slot waiting: R99 follows. -/
theorem Ev.Unbinds.givesUp (h : e.Unbinds s l reason) (hheld : HeldOk s) {m : FrameNo}
    (hm : (s.lanes.table.get l).reserved = some m) (hwait : s.frames.waitQ = [])
    (ht : t = (e.acceptWrite r (cellEntry s r addr d cell) [cellStatus e.toState cell d (cmdDone n)]).finish) :
    DoneUnmarked s t r addr d cell (le 8 n) ∧ t.lanes.table.get l = Lane.unbound ∧ GivesUp s t l m reason := by
  subst ht
  obtain ⟨hopenIs, hreservedIs, _, _⟩ := (heldOk_iff s).mp hheld
  generalize ha : e.acceptWrite r (cellEntry s r addr d cell) [cellStatus e.toState cell d (cmdDone n)] = a
  have haframe (j : FrameNo) : a.frame j = e.frame j := by rw [← ha]; rfl
  have halane (k : LaneNo) : a.lane k = if l = k then Lane.unbound else s.lanes.table.get k := by
    rw [← h.lane k, ← ha]; rfl
  have hgrows := a.reserveAll_grows
  have hframe (j : FrameNo) : a.finish.frames.table.get j = a.reserveAll.frame j := by rw [a.finish_frames_eq]; rfl
  have hlane (k : LaneNo) : a.finish.lanes.table.get k = a.reserveAll.lane k := by rw [a.finish_lanes_eq]; rfl
  have hkept {j : FrameNo} (hj : (e.frame j).state ≠ .free) : a.finish.frames.table.get j = e.frame j := by
    rw [hframe, hgrows.frame_kept (by rwa [haframe]), haframe]
  have hcmd : a.finish.cmd = s.cmd := by rw [a.finish_cmd, ← ha]; exact h.cmd
  have hdecoder : a.finish.decoder = s.decoder := by rw [a.finish_decoder, ← ha]; exact h.link.decoder
  have hgeometry : KeepsGeometry s a.finish := by
    refine KeepsGeometry.trans ?_ a.finish_geometry
    rw [← ha]
    exact h.geometry
  have hapart {j : FrameNo} (hj : (s.lanes.table.get l).openFrame = some j) :
      (s.lanes.table.get l).reserved ≠ some j := by
    intro hcontra
    have hopened := (hopenIs l j hj).1
    rw [(hreservedIs l j hcontra).1] at hopened
    cases hopened
  have hcleared : a.finish.lanes.table.get l = Lane.unbound := by
    rw [hlane]
    rcases hgrows.lane l with hsame | ⟨⟨hbound, _⟩, _⟩
    · rw [hsame, halane, if_pos rfl]
    · exact absurd (by rw [show a.lanes.table.get l = a.lane l from rfl, halane, if_pos rfl]; rfl) hbound
  have hslots : a.finish.slots = s.slots := by
    rw [a.finish_slots, ← ha]
    exact congrArg SlotEngine.mk (vector_eq_of_get (fun j => (h.slots j).trans (movedWaiter_none hwait l j)))
  have hclosing {j : FrameNo} (hj : (s.lanes.table.get l).openFrame = some j) : (e.frame j).state ≠ .free := by
    obtain ⟨e', hclosed, _, _, hframe'⟩ := h.closing
    have hheld' : OpenIsHeld (Ev.start s.clearOut).toState l := fun i hi => ⟨hi, hopenIs l i hi⟩
    have hnot : (s.frames.table.get j).state ≠ .free := by
      rw [(hopenIs l j hj).1]
      simp
    rw [hframe' j, if_neg (hapart hj)]
    exact fun hfree => hnot ((hclosed.free_iff hheld' j).mp hfree)
  refine ⟨⟨⟨?_, hdecoder, ?_, ?_⟩, ?_⟩, hcleared, ?_, ?_, ?_, fun j hjm hj hjfree => ?_, fun k hk => ?_, ?_, hslots, hcmd,
    hgeometry⟩
  · rw [a.finish_loader, ← ha]; exact h.link.loader
  · rw [a.finish_port, ← ha]; exact h.link.port
  · rw [a.finish_pending, ← ha]; exact h.link.pending
  · have htook := Ev.accept_tookUnmarked h.link.queue h.link.linkOut h.link.storeOut r
      (x := cellEntry s r addr d cell) rfl [cellStatus e.toState cell d (cmdDone n)]
    have hstatus : cellStatus a.finish cell d (cmdDone n) = cellStatus e.toState cell d (cmdDone n) := by
      simp only [cellStatus, State.commandStatusWrite, State.controlAddr, hdecoder, hcmd, h.link.decoder, h.cmd]
    rw [ha, ← hstatus] at htook
    exact htook
  · exact h.closesLane (fun j hj => hapart hj) (fun j hj => hkept (hclosing hj)) (by rw [a.finish_copy, ← ha]; rfl)
      (fun w hw => Ev.finish_made (by rw [← ha]; exact hw)) hdecoder hgeometry hcmd
  · have hfreed : a.frame m = Frame.free := by
      obtain ⟨_, _, _, _, hframe'⟩ := h.closing
      rw [haframe, hframe' m, if_pos hm]
    rw [FreedFrame, hframe]
    refine (hgrows.frame m).imp (fun hsame => hsame.trans hfreed) (fun ⟨_, k, hrecord, hreserved⟩ => ⟨k, hrecord, ?_⟩)
    rw [hlane]
    exact hreserved
  · refine Ev.finish_reserves ?_ ?_ (fun k j hj => ?_)
    · rw [← ha]
      exact h.due.trans (by rw [hm]; rfl)
    · obtain ⟨_, hnF, _⟩ := h.geometry
      rw [← ha]
      exact hnF
    · rw [halane] at hj
      split at hj
      · cases hj
      · exact hj
  · have hsame := h.otherFrame hj (fun hcontra => hjm (Option.some.inj (hcontra.symm.trans hm)))
    rw [← hsame] at hjfree ⊢
    exact hkept hjfree
  · obtain ⟨hbinding, hopen, hplace⟩ := hgrows.lane_keeps k
    have hreserved {j : FrameNo} := hgrows.reserved_kept (l := k) (m := j)
    simp only [halane k, if_neg hk.symm] at hbinding hopen hplace hreserved
    rw [hlane]
    exact ⟨hbinding, hopen, hplace, fun j hj => hreserved hj⟩
  · rw [a.finish_waitQ, ← ha]
    exact h.waitQ.trans hwait

end

/-- With no slot waiting, or no frame freed, an event makes no grants (R100, R104). -/
theorem Ev.grantFreed_idle {e : Ev} (h : e.reserveDue = false ∨ e.frames.waitQ = []) : e.grantFreed = e := by
  rcases h with hdue | hwait
  · exact Safety.grantFreed_not_due hdue
  · have hgrant : e.grantAll = e := by
      unfold Ev.grantAll Ev.grants
      rw [hwait]
    unfold Ev.grantFreed
    rw [hgrant, ite_self]

end Sys2Proof.Machine

namespace Sys2Proof.Safety

open Sys2Proof.Machine

/-! ### UNREGISTER and REGISTER of a tag bound to a lane -/

/-- The event of a command that unbinds lane `l` and leaves the entries and notices given (R80, R81, R85). -/
def unboundEv (s : State) (l : LaneNo) (reason : SealReason) (entries : List CollEntry)
    (posted : List (Poster × Notice)) : Ev :=
  { (Ev.start s.clearOut).unbindLane l reason with coll := { s.coll with entries := entries }, posted := posted }

theorem postEvicted_coll (e : Ev) (x : CollEntry) : (e.postEvicted x).coll = e.coll := by
  unfold Ev.postEvicted Ev.post
  split
  · split <;> rfl
  · rfl

theorem setEntries_pinEntry (e : Ev) (entries : List CollEntry) (tag : Tag) (c : ClassNo) (lane : Option LaneNo) :
    (e.setEntries entries).pinEntry tag c lane
      = e.setEntries (pinnedEntry tag c lane :: entries.filter (fun y => y.tag != tag)) := rfl

/-- The event of LANE_EVICTED as REGISTER posts it (R80). -/
def evictedNotice (s : State) (l : LaneNo) (old : Tag) : Poster × Notice :=
  (.lane, { time := s.cmd.bridgeTime, body := .laneEvicted l old 0 })

section
variable {s : State} {l : LaneNo} {x : CollEntry} {c' : ClassNo} (hheld : OpenIsHeld s l)
  (hbound : (s.lanes.table.get l).binding = .collection x.tag c')
include hheld hbound

theorem unboundEv_unbinds (reason : SealReason) (entries : List CollEntry) (posted : List (Poster × Notice)) :
    (unboundEv s l reason entries posted).Unbinds s l reason :=
  (Ev.unbindLane_unbinds hheld hbound reason).1.with _ _

variable (hlane : x.lane = some l)
include hlane

theorem unbindEntry_entries (reason : SealReason) : ((Ev.start s.clearOut).unbindEntry x reason).coll.entries
    = s.coll.entries.map (CollEntry.withoutLane x.tag) := by
  rw [Ev.unbindEntry, hlane]
  exact congrArg Collections.entries (Ev.unbindLane_unbinds hheld hbound reason).2.1

theorem unbindEntry_setEntries (reason : SealReason) (entries : List CollEntry) :
    ((Ev.start s.clearOut).unbindEntry x reason).setEntries entries = unboundEv s l reason entries [] := by
  obtain ⟨_, hcoll, hposted⟩ := Ev.unbindLane_unbinds hheld hbound reason
  rw [Ev.unbindEntry, hlane]
  calc ((Ev.start s.clearOut).unbindLane l reason).setEntries entries
      = { (Ev.start s.clearOut).unbindLane l reason with
          coll := { ((Ev.start s.clearOut).unbindLane l reason).coll with entries := entries }
          posted := ((Ev.start s.clearOut).unbindLane l reason).posted } := rfl
    _ = unboundEv s l reason entries [] := by rw [hcoll, hposted]; rfl

/-- REGISTER evicts the entry of a bound lane: the lane is unbound and LANE_EVICTED posted (R80). -/
theorem unbindEntry_postEvicted (hactive : s.loader.state = .active) (entries : List CollEntry) :
    (((Ev.start s.clearOut).unbindEntry x .evicted).postEvicted x).setEntries entries
      = unboundEv s l .evicted entries [evictedNotice s l x.tag] := by
  obtain ⟨hunbinds, hcoll, hposted⟩ := Ev.unbindLane_unbinds hheld hbound .evicted
  rw [Ev.unbindEntry, Ev.postEvicted, hlane]
  dsimp only
  rw [Ev.post_active (hunbinds.link.loader ▸ hactive), hposted, hunbinds.cmd]
  calc _ = { (Ev.start s.clearOut).unbindLane l .evicted with
          coll := { ((Ev.start s.clearOut).unbindLane l .evicted).coll with entries := entries }
          posted := [evictedNotice s l x.tag] } := rfl
    _ = unboundEv s l .evicted entries [evictedNotice s l x.tag] := by rw [hcoll]; rfl

theorem judge_unregister_bound {d : List Byte} (hfrozen : s.cmd.frozen = false)
    (hx : s.coll.entries.find? (fun y => y.tag == x.tag) = some x) (htag : x.tag = BitVec.ofNat 32 (field d 8 4))
    (hidle : (s.lanes.table.get l).reserved = none ∨ s.frames.waitQ = []) :
    (Ev.start s.clearOut).judgeCommand 2 d
      = (unboundEv s l .reclass (s.coll.entries.filter (fun y => y.tag != x.tag)) [], cmdDone l.val) := by
  have hunbinds := unboundEv_unbinds hheld hbound .reclass (s.coll.entries.filter (fun y => y.tag != x.tag)) []
  rw [judgeCommand_unregister (e := Ev.start s.clearOut) hfrozen,
    doUnregister_present (e := Ev.start s.clearOut) (by rw [← htag]; exact hx), ← htag,
    unbindEntry_entries hheld hbound hlane, filter_withoutLane, unbindEntry_setEntries hheld hbound hlane,
    Ev.grantFreed_idle (hidle.imp (fun hnone => by rw [hunbinds.due, hnone]; rfl) hunbinds.waitQ.trans),
    CollEntry.laneNumber, hlane]

theorem judge_register_otherClass {d : List Byte} {c : ClassNo} (hfrozen : s.cmd.frozen = false)
    (hx : s.coll.entries.find? (fun y => y.tag == x.tag) = some x) (htag : x.tag = BitVec.ofNat 32 (field d 8 4))
    (hc : field d 12 1 = c.val) (hother : x.cls ≠ c)
    (hidle : (s.lanes.table.get l).reserved = none ∨ s.frames.waitQ = []) :
    (Ev.start s.clearOut).judgeCommand 1 d
      = (unboundEv s l .reclass (pinnedEntry x.tag c none :: s.coll.entries.filter (fun y => y.tag != x.tag)) [],
          cmdDone 0) := by
  have hunbinds := unboundEv_unbinds hheld hbound .reclass
    (pinnedEntry x.tag c none :: s.coll.entries.filter (fun y => y.tag != x.tag)) []
  rw [judgeCommand_register (e := Ev.start s.clearOut) hfrozen,
    doRegister_present (e := Ev.start s.clearOut) hc (by rw [← htag]; exact hx), ← htag,
    Ev.registerPresent, if_neg hother, Ev.pinEntry, unbindEntry_entries hheld hbound hlane, filter_withoutLane,
    unbindEntry_setEntries hheld hbound hlane,
    Ev.grantFreed_idle (hidle.imp (fun hnone => by rw [hunbinds.due, hnone]; rfl) hunbinds.waitQ.trans)]

theorem judge_register_evicts {d : List Byte} {c : ClassNo} (hfrozen : s.cmd.frozen = false)
    (hactive : s.loader.state = .active)
    (hnone : s.coll.entries.find? (fun y => y.tag == BitVec.ofNat 32 (field d 8 4)) = none)
    (hc : field d 12 1 = c.val) (hfull : 128 ≤ s.coll.entries.length)
    (hx : s.coll.entries.reverse.find? (fun y => !y.pinned) = some x)
    (hidle : (s.lanes.table.get l).reserved = none ∨ s.frames.waitQ = []) :
    (Ev.start s.clearOut).judgeCommand 1 d
      = (unboundEv s l .evicted (pinnedEntry (BitVec.ofNat 32 (field d 8 4)) c none
            :: s.coll.entries.filter (fun y => y.tag != x.tag)) [evictedNotice s l x.tag],
          cmdDone x.tag.toNat) := by
  have hunbinds := unboundEv_unbinds hheld hbound .evicted (pinnedEntry (BitVec.ofNat 32 (field d 8 4)) c none
    :: s.coll.entries.filter (fun y => y.tag != x.tag)) [evictedNotice s l x.tag]
  have hentries : (((Ev.start s.clearOut).unbindEntry x .evicted).postEvicted x).coll.entries
      = s.coll.entries.map (CollEntry.withoutLane x.tag) := by
    rw [postEvicted_coll, unbindEntry_entries hheld hbound hlane]
  have habsent : (s.coll.entries.filter (fun y => y.tag != x.tag)).filter
      (fun y => y.tag != BitVec.ofNat 32 (field d 8 4)) = s.coll.entries.filter (fun y => y.tag != x.tag) := by
    rw [List.filter_filter]
    simp only [Bool.and_comm]
    rw [← List.filter_filter, filter_absent hnone]
  rw [judgeCommand_register (e := Ev.start s.clearOut) hfrozen, doRegister_absent (e := Ev.start s.clearOut) hc hnone,
    registerAbsent_full (e := Ev.start s.clearOut) hfull hx, setEntries_pinEntry, hentries, filter_withoutLane, habsent,
    unbindEntry_postEvicted hheld hbound hlane hactive,
    Ev.grantFreed_idle (hidle.imp (fun hnone => by rw [hunbinds.due, hnone]; rfl) hunbinds.waitQ.trans)]

end

/-- The entries and the notices at the end of a command that unbinds lane `l`. -/
theorem unbinds_ends {s t : State} {e : Ev} {l : LaneNo} {reason : SealReason} (h : e.Unbinds s l reason) {r : Requester}
    {x : Entry} {own : List OwnWrite} (ht : t = (e.acceptWrite r x own).finish) :
    t.coll = e.coll ∧ (e.posted = [] → KeepsNotices s t)
      ∧ ∀ old, e.posted = [evictedNotice s l old] → Posted s t [.laneEvicted l old 0] := by
  subst ht
  have hsame : (e.acceptWrite r x own).sameWait := h.sameWait
  have hnotes : (e.acceptWrite r x own).notes = s.notes := h.notes
  have hposted : (e.acceptWrite r x own).posted = e.posted := rfl
  have hcmd : (e.acceptWrite r x own).cmd = s.cmd := h.cmd
  refine ⟨by rw [Ev.finish_coll]; rfl, fun hnone => Ev.finish_keepsNotices hsame hnotes (hposted.trans hnone),
    fun old hone => Ev.finish_posted (p := .lane) hsame hnotes ?_⟩
  rw [hposted, hone, hcmd]
  rfl

/-- Settles O31: each of the three commands unbinds the lane by the steps of R85, and differs in entries and notices. -/
theorem reclassUnbindsTheLane : Obligations.ReclassUnbindsTheLane := by
  unfold Obligations.ReclassUnbindsTheLane
  intro s r addr d cell x l hfrozen hx hlane ⟨c', hbound⟩ tag cleared does
  have hdoes (unbinds : State → Nat → SealReason → Prop) (hheld : OpenIsHeld s l)
      (hidle : (s.lanes.table.get l).reserved = none ∨ s.frames.waitQ = [])
      (hunbinds : ∀ (t : State) (e : Ev) (n : Nat) (reason : SealReason), e.Unbinds s l reason →
        t = (e.acceptWrite r (cellEntry s r addr d cell) [cellStatus e.toState cell d (cmdDone n)]).finish →
        unbinds t n reason) : does unbinds := by
    have hends (reason : SealReason) (entries : List CollEntry) (posted : List (Poster × Notice)) {code n : Nat}
        (due : CommandDue s r addr d cell code) (hcode : code ≠ 0)
        (hjudge : (Ev.start s.clearOut).judgeCommand code d = (unboundEv s l reason entries posted, cmdDone n)) :
        unbinds (s.takeWrite r addr d) n reason ∧ (s.takeWrite r addr d).coll.entries = entries
          ∧ (posted = [] → KeepsNotices s (s.takeWrite r addr d))
          ∧ ∀ old, posted = [evictedNotice s l old] → Posted s (s.takeWrite r addr d) [.laneEvicted l old 0] := by
      have hev := unboundEv_unbinds hheld hbound reason entries posted
      have htake := takeWrite_command due hcode hjudge
      obtain ⟨hcoll, hkeeps, hposted⟩ := unbinds_ends hev htake
      exact ⟨hunbinds _ _ n reason hev htake, congrArg Collections.entries hcoll, hkeeps, hposted⟩
    refine ⟨fun htag due => ⟨_, rfl, ?_⟩, fun c htag due hc hother => ⟨_, rfl, ?_⟩,
      fun c hnone due hc hfull hleast => ⟨_, rfl, ?_⟩⟩
    · obtain ⟨hdone, hentries, hkeeps, _⟩ := hends .reclass _ [] due (by decide)
        (judge_unregister_bound hheld hbound hlane hfrozen hx htag hidle)
      exact ⟨hdone, hkeeps rfl, hentries⟩
    · obtain ⟨hdone, hentries, hkeeps, _⟩ := hends .reclass _ [] due (by decide)
        (judge_register_otherClass hheld hbound hlane hfrozen hx htag hc hother hidle)
      exact ⟨hdone, hkeeps rfl, hentries⟩
    · have hactive : s.loader.state = .active := due.1.1.1.1
      obtain ⟨hdone, hentries, _, hposted⟩ := hends .evicted _ [evictedNotice s l x.tag] due (by decide)
        (judge_register_evicts hheld hbound hlane hfrozen hactive hnone hc hfull hleast hidle)
      exact ⟨hdone, hposted x.tag rfl, hentries⟩
  refine ⟨fun hheld hnone => hdoes _ hheld (.inl hnone) (fun t e n reason hev ht => hev.commanded hnone ht),
    fun m hm hwait hok => hdoes _ (fun n hn => ?_) (.inr hwait) (fun t e n reason hev ht => hev.givesUp hok hm hwait ht)⟩
  obtain ⟨hopenIs, _⟩ := (heldOk_iff s).mp hok
  exact ⟨hn, hopenIs l n hn⟩

end Sys2Proof.Safety
end

section
/-! SUPPORT. The choice of a lane (R83, R84), the opening of a new pack (R96, R98), and the obligation on the lanes that
collections are given. -/

namespace Sys2Proof.Machine

open Sys2Proof.Safety

/-! ### The lowest-numbered and the oldest lane -/

/-- The first of an ascending list that satisfies `p` is the lowest that does. -/
theorem find?_lowest {α : Type} [Preorder α] {p : α → Bool} {a : α} {ls : List α} (hasc : ls.Pairwise (· < ·))
    (ha : a ∈ ls) (hp : p a = true) (hlower : ∀ m ∈ ls, m < a → p m = false) : ls.find? p = some a := by
  induction ls with
  | nil => cases ha
  | cons b bs ih =>
    obtain ⟨hb, hbs⟩ := List.pairwise_cons.mp hasc
    rcases List.mem_cons.mp ha with rfl | ha
    · exact List.find?_cons_of_pos hp
    · rw [List.find?_cons_of_neg (by simp [hlower b List.mem_cons_self (hb a ha)])]
      exact ih hbs ha (fun m hm => hlower m (List.mem_cons_of_mem b hm))

/-- The older of two lanes, the first if they are as old as each other (R84). -/
def olderOf (age : LaneNo → Nat) (v l : LaneNo) : LaneNo := if age v < age l then l else v

theorem foldl_olderOf_kept {age : LaneNo → Nat} {l : LaneNo} {ls : List LaneNo} (h : ∀ m ∈ ls, age m ≤ age l) :
    ls.foldl (olderOf age) l = l := by
  induction ls with
  | nil => rfl
  | cons b bs ih =>
    rw [List.foldl_cons, olderOf, if_neg (Nat.not_lt.mpr (h b List.mem_cons_self))]
    exact ih (fun m hm => h m (List.mem_cons_of_mem b hm))

/-- In an ascending list the oldest, the lowest-numbered of equals, is found (R84). -/
theorem foldl_olderOf_oldest {age : LaneNo → Nat} {l : LaneNo} {ls : List LaneNo} (hasc : ls.Pairwise (· < ·))
    (hl : l ∈ ls) (hmax : ∀ m ∈ ls, age m ≤ age l ∧ (m < l → age m < age l)) {v : LaneNo}
    (hv : v = l ∨ age v < age l) : ls.foldl (olderOf age) v = l := by
  induction ls generalizing v with
  | nil => cases hl
  | cons b bs ih =>
    obtain ⟨hb, hbs⟩ := List.pairwise_cons.mp hasc
    have hmax' : ∀ m ∈ bs, age m ≤ age l ∧ (m < l → age m < age l) := fun m hm => hmax m (List.mem_cons_of_mem b hm)
    rw [List.foldl_cons]
    rcases List.mem_cons.mp hl with rfl | hl
    · have hnext : olderOf age v l = l := by
        rcases hv with rfl | hlt
        · exact ite_self _
        · exact if_pos hlt
      rw [hnext]
      exact foldl_olderOf_kept (fun m hm => (hmax' m hm).1)
    · refine ih hbs hl hmax' ?_
      unfold olderOf
      split
      · exact .inr ((hmax b List.mem_cons_self).2 (hb l hl))
      · exact hv

theorem mem_ownLanes (l : LaneNo) : l ∈ ownLanes ↔ l ≠ 0 := by simp [ownLanes]

theorem ownLanes_ascending : ownLanes.Pairwise (· < ·) := (List.pairwise_lt_finRange 32).filter _

/-- The lane placed in longest ago is the victim (R84). -/
theorem Ev.victim_oldest {e : Ev} {l : LaneNo} (hl : l ≠ 0)
    (hmax : ∀ m : LaneNo, m ≠ 0 → e.since (e.lane m).lastPlace ≤ e.since (e.lane l).lastPlace
      ∧ (m < l → e.since (e.lane m).lastPlace < e.since (e.lane l).lastPlace)) : e.victim = l := by
  refine foldl_olderOf_oldest (age := fun m => e.since (e.lane m).lastPlace) ownLanes_ascending ((mem_ownLanes l).mpr hl)
    (fun m hm => hmax m ((mem_ownLanes m).mp hm)) ?_
  by_cases hone : (1 : LaneNo) = l
  · exact .inl hone
  · have hpos : 1 ≤ l := Fin.one_le_of_ne_zero hl
    exact .inr ((hmax 1 (by decide)).2 (lt_of_le_of_ne hpos hone))

/-- A victim is one of the lanes 1..31. -/
theorem Ev.victim_ne_zero (e : Ev) : e.victim ≠ 0 := by
  have hkeeps (ls : List LaneNo) (hls : ∀ m ∈ ls, m ≠ 0) (v : LaneNo) (hv : v ≠ 0) :
      ls.foldl (olderOf (fun m => e.since (e.lane m).lastPlace)) v ≠ 0 := by
    induction ls generalizing v with
    | nil => exact hv
    | cons b bs ih =>
      refine ih (fun m hm => hls m (List.mem_cons_of_mem b hm)) _ ?_
      unfold olderOf
      split
      · exact hls b List.mem_cons_self
      · exact hv
  exact hkeeps ownLanes (fun m hm => (mem_ownLanes m).mp hm) 1 (by decide)

/-! ### The choice of a lane for a tag whose entry has none (R83, R84) -/

section
variable {e : Ev} {t : Tag} {c : ClassNo} {x : CollEntry} (hown : (e.classRec c).ownLane = true)
  (hx : e.entryOf t = some x) (hlane : x.lane = none)
include hown hx hlane

theorem Ev.chooseLane_binds {l : LaneNo} (hl : l ≠ 0) (hunbound : (e.lane l).binding = .unbound)
    (hlower : ∀ m : LaneNo, m ≠ 0 → m < l → (e.lane m).binding ≠ .unbound) :
    e.chooseLane t c = (e.bindLane l t c, l) := by
  have hfind : ownLanes.find? (fun m => (e.lane m).binding == .unbound) = some l :=
    find?_lowest ownLanes_ascending ((mem_ownLanes l).mpr hl) (by simp [hunbound])
      (fun m hm hml => by simpa using hlower m ((mem_ownLanes m).mp hm) hml)
  unfold Ev.chooseLane
  rw [hown, hx]
  simp only [hlane, hfind]
  rfl

variable (hbound : ∀ m : LaneNo, m ≠ 0 → (e.lane m).binding ≠ .unbound)
include hbound

omit hown hx hlane in
theorem Ev.ownLanes_allBound : ownLanes.find? (fun m => (e.lane m).binding == .unbound) = none := by
  rw [List.find?_eq_none]
  intro m hm
  simpa using hbound m ((mem_ownLanes m).mp hm)

theorem Ev.chooseLane_evicts (hhold : e.lanes.hold ≤ e.since (e.lane e.victim).lastPlace) :
    e.chooseLane t c = (e.evictLane e.victim t c, e.victim) := by
  unfold Ev.chooseLane
  rw [hown, hx]
  simp only [hlane, Ev.ownLanes_allBound hbound, if_pos hhold]
  rfl

theorem Ev.chooseLane_refused (hhold : e.since (e.lane e.victim).lastPlace < e.lanes.hold) :
    e.chooseLane t c = (e, 0) := by
  unfold Ev.chooseLane
  rw [hown, hx]
  simp only [hlane, Ev.ownLanes_allBound hbound, if_neg (Nat.not_le.mpr hhold)]
  rfl

end

/-! ### A lane bound to a new collection -/

/-- An entry with lane `l`, if it is the entry of tag `t` (R83). -/
def CollEntry.withLane (t : Tag) (l : LaneNo) (x : CollEntry) : CollEntry :=
  if x.tag = t then { x with lane := some l } else x

theorem CollEntry.withLane_tag (t : Tag) (l : LaneNo) (x : CollEntry) : (x.withLane t l).tag = x.tag := by
  unfold CollEntry.withLane
  split <;> rfl

/-- What an event that gives lane `l` to the collection `t` of class `c` has made of the state, the collection entries and
the notices apart: the lane's OPEN frame closed, if it held one, its waiters moved, and the lane bound (R83, R84). -/
structure Ev.Rebinds (s : State) (l : LaneNo) (t : Tag) (c : ClassNo) (e : Ev) : Prop where
  link : e.KeepsLink s
  cmd : e.cmd = s.cmd
  notes : e.notes = s.notes
  due : e.reserveDue = false
  wasEmpty : e.waitWasEmpty = s.frames.waitQ.isEmpty
  waitQ : e.frames.waitQ = s.frames.waitQ
  geometry : KeepsGeometry s e.toState
  classes : e.coll.classes = s.coll.classes
  lanes : e.lanes.table = put s.lanes.table l
    { s.lanes.table.get l with binding := .collection t c, openFrame := none, lastPlace := s.lanes.tick }
  slots : ∀ j, e.slots.table.get j = movedWaiter s l j
  closing : ∃ e' : Ev, (Ev.start s.clearOut).ClosedLane l .evicted e' ∧ e.copy = e'.copy ∧ e.made = e'.made
    ∧ e.frames = e'.frames

/-- An unbound lane is bound (R83 step 4). -/
theorem Ev.bindLane_rebinds {s : State} {l : LaneNo} (hopen : (s.lanes.table.get l).openFrame = none)
    (hwait : s.frames.waitQ = []) (t : Tag) (c : ClassNo) :
    ((Ev.start s.clearOut).bindLane l t c).Rebinds s l t c := by
  have hheld : OpenIsHeld (Ev.start s.clearOut).toState l := fun n hn => absurd (hopen.symm.trans hn) (by simp)
  have hclosed := Ev.closeLane_closed hheld .evicted
  have hidle : (Ev.start s.clearOut).closeLane l .evicted = Ev.start s.clearOut := by
    have hopen' : ((Ev.start s.clearOut).lane l).openFrame = none := hopen
    unfold Ev.closeLane
    rw [hopen']
  rw [hidle] at hclosed
  refine ⟨⟨rfl, rfl, rfl, rfl, rfl, rfl, rfl⟩, rfl, rfl, rfl, rfl, rfl, ⟨rfl, rfl, rfl, rfl, rfl, rfl, rfl⟩, rfl, ?_,
    fun j => (movedWaiter_none hwait l j).symm, _, hclosed, rfl, rfl, rfl⟩
  rw [← hopen]
  rfl

/-- The victim of an eviction, its entry and its waiters (R84 steps 1 to 5). -/
theorem Ev.evictLane_rebinds {s : State} {l : LaneNo} {old : Tag} {oldClass : ClassNo} (hactive : s.loader.state = .active)
    (hheld : OpenIsHeld s l) (hbound : (s.lanes.table.get l).binding = .collection old oldClass) (t : Tag) (c : ClassNo) :
    ((Ev.start s.clearOut).evictLane l t c).Rebinds s l t c
      ∧ ((Ev.start s.clearOut).evictLane l t c).coll = { s.coll with
          entries := (s.coll.entries.map (CollEntry.withoutLane old)).map (CollEntry.withLane t l) }
      ∧ ((Ev.start s.clearOut).evictLane l t c).posted
        = [(.lane, { time := s.cmd.bridgeTime, body := .laneEvicted l old t })] := by
  have hclosed := Ev.closeLane_closed (e := Ev.start s.clearOut) hheld .evicted
  have hold : ((Ev.start s.clearOut).lane l).tag = old := by
    have hbound' : ((Ev.start s.clearOut).lane l).binding = .collection old oldClass := hbound
    rw [Lane.tag, hbound']
  unfold Ev.evictLane
  dsimp only
  rw [hold]
  generalize (Ev.start s.clearOut).closeLane l .evicted = closed at hclosed ⊢
  have hkeeps := hclosed.keeps
  obtain ⟨table, htable, hget⟩ := (closed.bindEntry old none).moveWaiters_eq l
  rw [htable, Ev.post_active (hkeeps.loader.symm ▸ hactive)]
  have hlanes : closed.lanes = { s.lanes with
      table := put s.lanes.table l { s.lanes.table.get l with openFrame := none } } := hclosed.lanes
  have hcoll : closed.coll = s.coll := hkeeps.coll
  refine ⟨⟨⟨hkeeps.loader, hkeeps.decoder, hkeeps.port, hkeeps.pending, hkeeps.queue, hkeeps.linkOut, hkeeps.storeOut⟩,
    hkeeps.cmd, hkeeps.notes, hkeeps.reserveDue, hkeeps.waitWasEmpty, hkeeps.waitQ, ?_, ?_, ?_, fun j => ?_, closed,
    hclosed, rfl, rfl, rfl⟩, ?_, ?_⟩
  · exact hkeeps.geometry
  · show closed.coll.classes = s.coll.classes
    rw [hcoll]
  · show put closed.lanes.table l { closed.lanes.table.get l with
      binding := .collection t c, lastPlace := closed.lanes.tick } = _
    rw [hlanes]
    simp only [put_put, get_put_same]
  · show table.get j = _
    rw [hget j, movedWaiter_eq, movedWaiter_eq]
    show movedAmong closed.frames.waitQ l j (closed.slots.table.get j) = _
    rw [hkeeps.waitQ, hclosed.slots]
    rfl
  · show { closed.coll with
      entries := (closed.coll.entries.map (CollEntry.withoutLane old)).map (CollEntry.withLane t l) } = _
    rw [hcoll]
  · show closed.posted ++ [(_, { time := closed.cmd.bridgeTime, body := _ })] = _
    rw [hkeeps.posted, hkeeps.cmd]
    rfl

end Sys2Proof.Machine
end

section
/-! SUPPORT. A new pack opened for a file in a lane that was given to its collection (R93, R96 to R98, R105), and the
obligation on the lanes that collections are given. -/

namespace Sys2Proof.Machine

open Sys2Proof.Safety

/-! ### A lane's OPEN frame and the frame for its next pack -/

theorem openIsHeld_of_holdsOpen {s : State} {l : LaneNo} {n : FrameNo} (hholds : HoldsOpen s l n) : OpenIsHeld s l := by
  intro j hj
  obtain rfl := Option.some.inj (hholds.1.symm.trans hj)
  exact hholds

/-- An OPEN frame is no frame for a new pack. -/
theorem ne_of_frameFor {s : State} {l : LaneNo} {g n : FrameNo} (hholds : HoldsOpen s l n)
    (hfor : FrameFor s l g) : n ≠ g := by
  obtain ⟨_, hopened, _⟩ := hholds
  rintro rfl
  rcases hfor with ⟨_, hreserved, _⟩ | ⟨_, _, hfree, _⟩
  · rw [hopened] at hreserved
    cases hreserved
  · rw [hopened] at hfree
    cases hfree

/-! ### The lane given, as the event stands -/

section
variable {s : State} {l : LaneNo} {t : Tag} {c : ClassNo} {e : Ev} (h : e.Rebinds s l t c)
include h

theorem Ev.Rebinds.lane (k : LaneNo) : e.lane k = if l = k then
    { s.lanes.table.get l with binding := .collection t c, openFrame := none, lastPlace := s.lanes.tick }
    else s.lanes.table.get k := by
  rw [Ev.lane, h.lanes, get_put]

theorem Ev.Rebinds.lane_same : e.lane l
    = { s.lanes.table.get l with binding := .collection t c, openFrame := none, lastPlace := s.lanes.tick } :=
  (h.lane l).trans (if_pos rfl)

theorem Ev.Rebinds.tick : e.lanes.tick = s.lanes.tick := by
  obtain ⟨_, _, _, _, _, htick, _⟩ := h.geometry
  exact htick

theorem Ev.Rebinds.slots_none (hwait : s.frames.waitQ = []) (j : SlotNo) : e.slots.table.get j = s.slots.table.get j :=
  (h.slots j).trans (movedWaiter_none hwait l j)

theorem Ev.Rebinds.made_isSeal : ∀ w ∈ e.made, w.isSeal = true := by
  obtain ⟨e', hclosed, _, hmade, _⟩ := h.closing
  rw [hmade]
  exact hclosed.made_isSeal rfl

theorem Ev.Rebinds.free_iff (hheld : OpenIsHeld s l) (j : FrameNo) :
    (e.frame j).state = .free ↔ (s.frames.table.get j).state = .free := by
  obtain ⟨e', hclosed, _, _, hframes⟩ := h.closing
  rw [Ev.frame, hframes]
  exact hclosed.free_iff (e := Ev.start s.clearOut) hheld j

/-- The record of a pack opened in the lane (R96, R97). -/
theorem Ev.Rebinds.openRecord_eq : e.openRecord l = packRecord s l (.collection t c) := by
  have hlane := h.lane_same
  have hclass : (e.lane l).packClass = c := by rw [hlane]; rfl
  have htag : (e.lane l).packTag = t := by rw [hlane]; rfl
  rw [Ev.openRecord, hclass, htag, h.cmd, h.tick, Ev.classRec, h.classes]

/-- The frame for a new pack of the lane is the one for it in the state before (R93). -/
theorem Ev.Rebinds.frameFor (hheld : OpenIsHeld s l) (hserial : s.cmd.nextSerial < 2 ^ 48) {g : FrameNo}
    (hfor : FrameFor s l g) : e.frameFor l = some g := by
  have hexhausted : e.exhausted = false := by
    rw [State.exhausted, h.cmd]
    exact decide_eq_false (Nat.not_le.mpr hserial)
  have hreserved : (e.lane l).reserved = (s.lanes.table.get l).reserved := by rw [h.lane_same]
  unfold Ev.frameFor
  rw [hexhausted, hreserved]
  rcases hfor with ⟨hsome, _⟩ | ⟨hnone, huse, hfree, hlower⟩
  · rw [hsome]
    rfl
  · obtain ⟨_, hnF, _⟩ := h.geometry
    have hlowest : e.lowestFree = some g := State.lowestFree_iff.mpr
      ⟨by rw [InUse, hnF]; exact huse, (h.free_iff hheld g).mpr hfree,
        fun m hm hcontra => hlower m hm ((h.free_iff hheld m).mp hcontra)⟩
    rw [hnone, hlowest]
    rfl

end

/-! ### The new pack -/

/-- What becomes of the unsent writes as frame `g` goes OPEN for lane `l`: none is marked if the frame was RESERVED (R98). -/
def Ev.openMark (e : Ev) (g : FrameNo) (l : LaneNo) : Entry → Entry :=
  if (e.lane l).reserved = some g then id else Entry.cancelFor g

theorem Ev.openMark_marking (e : Ev) (g : FrameNo) (l : LaneNo) : Marking (e.openMark g l) := by
  unfold Ev.openMark
  split
  · exact .id
  · exact .cancelFor g

/-- The event after frame `g` is opened for lane `l` with the file of slot `k` as its first, which does not close it; the
pack's header, made besides, is left out. -/
def Ev.newPack (e : Ev) (k : SlotNo) (f : File) (c : ClassNo) (l : LaneNo) (g : FrameNo) : Ev :=
  { e with
    queue := { e.queue with unsent := e.queue.unsent.map (e.openMark g l) }
    slots := { table := put e.slots.table k (.filling f c l { frame := g, entry := 0, offset := 0 }) }
    frames := { e.frames with
      table := put e.frames.table g (withFile (e.openRecord l) f.intent.length e.lanes.tick) }
    lanes := { e.lanes with
      table := put e.lanes.table l { e.openLane g l with
        lastPlace := if l = 0 then (e.openLane g l).lastPlace else e.lanes.tick } }
    coll := { e.coll with entries := touched f.intent.tag e.coll.entries }
    cmd := { e.cmd with nextSerial := e.cmd.nextSerial + 1 }
    reserveDue := true }

/-- Opening a pack, all of it (R96 to R98). -/
theorem Ev.openPack_eq (e : Ev) (g : FrameNo) (l : LaneNo) : e.openPack g l = { e with
    queue := { e.queue with unsent := e.queue.unsent.map (e.openMark g l) }
    frames := { e.frames with table := put e.frames.table g (e.openRecord l) }
    lanes := { e.lanes with table := put e.lanes.table l (e.openLane g l) }
    cmd := { e.cmd with nextSerial := e.cmd.nextSerial + 1 }
    made := e.made ++ [e.openHeaderWrite g (e.openRecord l)]
    reserveDue := true } := by
  unfold Ev.openPack Ev.openMark Ev.openLane
  dsimp only
  split
  · rw [List.map_id]
    rfl
  · rfl

theorem Ev.openPack_frame (e : Ev) (g : FrameNo) (l : LaneNo) : (e.openPack g l).frame g = e.openRecord l := by
  rw [Ev.frame, Ev.openPack_frames]
  exact get_put_same _ _ _

/-- A new pack that its first file does not close (R94 to R96). -/
theorem Ev.openPack_placedIn (e : Ev) (k : SlotNo) (f : File) (c : ClassNo) (l : LaneNo) (g : FrameNo) :
    (e.openPack g l).placedIn k f c l g
      = { e.newPack k f c l g with made := e.made ++ [e.openHeaderWrite g (e.openRecord l)] } := by
  have hframe := e.openPack_frame g l
  have hlane : (e.openPack g l).lane l = e.openLane g l := by
    rw [Ev.lane, Ev.openPack_lanes]
    exact get_put_same _ _ _
  unfold Ev.placedIn placedAt
  rw [hframe, show (e.openPack g l).lanes.table.get l = e.openLane g l from hlane, hlane, Ev.openPack_eq]
  simp only [Ev.setFrame, Ev.setSlot, Ev.setLane, Ev.setEntries, put_put]
  rfl

/-! ### The own writes of an OPEN whose event has begun a seal -/

theorem OwnWrite.not_isStatusOf_of_isSeal {w : OwnWrite} (h : w.isSeal = true) (k : SlotNo) : w.isStatusOf k = false := by
  unfold OwnWrite.isSeal at h
  split at h
  · next n serial hkind => simp [OwnWrite.isStatusOf, hkind]
  · cases h

theorem Ev.not_isHeaderFor_of_isSeal {w : OwnWrite} (h : w.isSeal = true) (e : Ev) (k : SlotNo) :
    e.isHeaderFor k w = false := by
  unfold OwnWrite.isSeal at h
  split at h
  · next n serial hkind => simp [Ev.isHeaderFor, hkind]
  · cases h

/-- The header of the pack goes with the OPEN; seals that the event has begun are held (R12, R13, R105). -/
theorem Ev.openWrites_seals {e : Ev} {seals header : List OwnWrite} {k : SlotNo} (hmade : e.made = seals ++ header)
    (hseals : ∀ w ∈ seals, w.isSeal = true) (hheader : ∀ w ∈ header, e.isHeaderFor k w = true) :
    e.openWrites k = ({ e with made := seals }, header ++ [e.reportOf k]) := by
  have hnone : seals.filter (e.isHeaderFor k) = [] :=
    List.filter_eq_nil_iff.mpr (fun w hw => by simp [Ev.not_isHeaderFor_of_isSeal (hseals w hw)])
  have hall : header.filter (e.isHeaderFor k) = header := List.filter_eq_self.mpr hheader
  have hkeep : seals.filter (fun w => !(w.isStatusOf k || e.isHeaderFor k w)) = seals :=
    List.filter_eq_self.mpr (fun w hw => by
      simp [Ev.not_isHeaderFor_of_isSeal (hseals w hw), OwnWrite.not_isStatusOf_of_isSeal (hseals w hw)])
  have hdrop : header.filter (fun w => !(w.isStatusOf k || e.isHeaderFor k w)) = [] :=
    List.filter_eq_nil_iff.mpr (fun w hw => by simp [hheader w hw])
  unfold Ev.openWrites
  rw [hmade, List.filter_append, List.filter_append, hnone, hall, hkeep, hdrop, List.append_nil, List.nil_append]

theorem Ev.reportOf_waiting {e : Ev} {k : SlotNo} {f : File} {c : ClassNo} {l : LaneNo} (h : e.slot k = .waiting f c l) :
    e.reportOf k = e.statusWrite k 2 .queuedFrame f.lastReq 0 none 0 := by
  simp only [Ev.reportOf, Ev.statusOf, h, SlotEntry.code]

/-- With no frame FREE an event makes no grants (R104). -/
theorem Ev.grantAll_no_free {e : Ev} (hfree : e.lowestFree = none) : e.grantAll = e := by
  unfold Ev.grantAll Ev.grants
  rw [hfree]
  split
  · rfl
  · rfl
  · next hsome _ => cases hsome

/-- The event after slot `k` joins the queue for lane `l`, with no frame to be granted (R93, R101). -/
def Ev.queuedFor (e : Ev) (k : SlotNo) (f : File) (c : ClassNo) (l : LaneNo) : Ev :=
  (e.setSlot k (.waiting f c l)).setWaitQ (e.frames.waitQ ++ [k])

/-! ### The OPEN that opens a pack in the lane given -/

/-- The header of an OPEN pack is made of the record and of values that a step keeps (R119). -/
theorem openHeaderWrite_eq {s t : State} (hdecoder : t.decoder = s.decoder) (hexp : t.frames.exp = s.frames.exp)
    (hpreamble : t.frames.preamble = s.frames.preamble) (n : FrameNo) (f : Frame) :
    t.openHeaderWrite n f = s.openHeaderWrite n f := by
  simp only [State.openHeaderWrite, State.headerBytes, State.frameBase, State.frameSize, hdecoder, hexp, hpreamble]

/-- An entry that is no pack-window write, and the own writes with it, gain no mark at the end of the event (R12, R98). -/
theorem Ev.accept_unsent_marked (e : Ev) (r : Requester) {x : Entry} (hx : ∀ r n a, x.origin ≠ .upstream r (.pack n) a)
    (own : List OwnWrite) : ∃ (mark : Entry → Entry) (later : List OwnWrite), Marking mark
      ∧ (e.acceptWrite r x own).finish.queue.unsent = e.queue.unsent.map mark
        ++ (x :: own.map (fun w => w.entry (some r))) ++ later.map (fun w => w.entry none) := by
  obtain ⟨mark, later, hmark, hunsent⟩ := Ev.finish_unsent_marked (e.acceptWrite r x own)
  have haccept : (e.acceptWrite r x own).queue.unsent = e.queue.unsent ++ x :: own.map (fun w => w.entry (some r)) := rfl
  have htail : (x :: own.map (fun w => w.entry (some r))).map mark = x :: own.map (fun w => w.entry (some r)) := by
    refine (List.map_congr_left (g := id) (fun y hy => hmark.other y ?_)).trans (List.map_id _)
    rcases List.mem_cons.mp hy with rfl | hy
    · exact hx
    · obtain ⟨w, _, rfl⟩ := List.mem_map.mp hy
      intro _ _ _ horigin
      cases horigin
  exact ⟨mark, later, hmark, by rw [hunsent, haccept, List.map_append, htail]⟩

section
variable {s : State} {l : LaneNo} {tag : Tag} {c : ClassNo} {e : Ev} (h : e.Rebinds s l tag c) (g : FrameNo)
  (k : SlotNo) (f : File)
include h

theorem Ev.Rebinds.route_newPack (hheld : OpenIsHeld s l) (hwait : s.frames.waitQ = [])
    (hserial : s.cmd.nextSerial < 2 ^ 48) (hfor : FrameFor s l g)
    (hstays : StaysOpen (packRecord s l (.collection tag c)) f.intent.length) :
    e.route k f c l = (e.openPack g l).placedIn k f c l g := by
  have hopen : (e.lane l).openFrame = none := by rw [h.lane_same]
  have hstays' : StaysOpen ((e.openPack g l).frame g) f.intent.length := by
    rw [Ev.openPack_frame, h.openRecord_eq]
    exact hstays
  unfold Ev.route
  rw [h.waitQ, hwait, hopen]
  simp only [List.any_nil, Bool.false_eq_true, if_false]
  unfold Ev.openOrWait
  rw [h.frameFor hheld hserial hfor]
  exact Ev.place_staysOpen hstays' k c l

theorem Ev.Rebinds.openWrites_newPack : ((e.openPack g l).placedIn k f c l g).openWrites k = (e.newPack k f c l g,
    [s.openHeaderWrite g (packRecord s l (.collection tag c)),
     s.statusWrite k 3 .placed f.lastReq 0 (some { frame := g, entry := 0, serial := s.cmd.nextSerial }) 0]) := by
  obtain ⟨hexp, _, _, _, hpreamble, _, _⟩ := h.geometry
  have hslot := (e.openPack g l).placedIn_slot k f c l g
  have hreport : ((e.openPack g l).placedIn k f c l g).reportOf k
      = s.statusWrite k 3 .placed f.lastReq 0 (some { frame := g, entry := 0, serial := s.cmd.nextSerial }) 0 := by
    rw [Ev.reportOf_filling hslot, Ev.placedIn_frame, Ev.openPack_frame, h.openRecord_eq, e.openPack_placedIn]
    show e.statusWrite k 3 .placed f.lastReq 0 (some { frame := g, entry := 0, serial := s.cmd.nextSerial }) 0 = _
    simp only [State.statusWrite, State.controlAddr, h.link.decoder]
  have hheader : ∀ w ∈ [e.openHeaderWrite g (e.openRecord l)],
      ((e.openPack g l).placedIn k f c l g).isHeaderFor k w = true := by
    intro w hw
    obtain rfl := List.mem_singleton.mp hw
    simp [Ev.isHeaderFor, hslot, State.openHeaderWrite]
  rw [Ev.openWrites_seals (by rw [e.openPack_placedIn]) h.made_isSeal hheader, hreport, h.openRecord_eq,
    openHeaderWrite_eq h.link.decoder hexp hpreamble, e.openPack_placedIn]
  rfl

/-- An unsent write to the frame that leaves FREE is cancelled, and keeps its place (R98). -/
theorem Ev.Rebinds.openMark_cancels (hfor : FrameFor s l g) (hfree : (s.frames.table.get g).state = .free) {x : Entry}
    {q : Requester} {a : UpAddr} (hx : x.origin = .upstream q (.pack g) a) : (e.openMark g l x).cancelled = true := by
  have hnot : (e.lane l).reserved ≠ some g := by
    rw [h.lane_same]
    rcases hfor with ⟨_, hreserved, _⟩ | ⟨hnone, _⟩
    · rw [hreserved] at hfree
      cases hfree
    · rw [show (s.lanes.table.get l).reserved = none from hnone]
      simp
  unfold Ev.openMark Entry.cancelFor
  rw [if_neg hnot, hx]
  exact congrArg Entry.cancelled (if_pos rfl)

variable {g k f}

/-- What stands at the end of the OPEN that opens frame `g` as the first pack of the lane given (R12, R91, R98). -/
theorem Ev.Rebinds.opensPack (hl : l ≠ 0) (hwait : s.frames.waitQ = []) (hfor : FrameFor s l g) {r : Requester}
    {addr : UpAddr} {d : List Byte} {t : State}
    (ht : t = ((e.newPack k (newFile r d) c l g).acceptWrite r
      (upstreamEntry r .control addr (s.decoder.control.store + (0x1000 + k.val * 64)) d)
      [s.openHeaderWrite g (packRecord s l (.collection tag c)),
       s.statusWrite k 3 .placed (BitVec.ofNat 8 (field d 1 1)) 0
         (some { frame := g, entry := 0, serial := s.cmd.nextSerial }) 0]).finish) :
    OpensPack s t r addr d k c l (.collection tag c) g := by
  subst ht
  generalize hx : upstreamEntry r .control addr (s.decoder.control.store + (0x1000 + k.val * 64)) d = x
  generalize hown : [s.openHeaderWrite g (packRecord s l (.collection tag c)), _] = own
  generalize ha : (e.newPack k (newFile r d) c l g).acceptWrite r x own = a
  have hgrows := a.reserveAll_grows
  have hlane : a.lane l = { e.openLane g l with lastPlace := e.lanes.tick } := by
    rw [← ha]
    exact (get_put_same _ _ _).trans (by rw [if_neg hl])
  have hframe : a.frame g = withFile (packRecord s l (.collection tag c)) (field d 12 4) s.lanes.tick := by
    rw [← h.openRecord_eq, ← h.tick, ← ha]
    exact get_put_same _ _ _
  obtain ⟨hbinding, hopen, hplace⟩ := hgrows.lane_keeps l
  have hlane' : a.finish.lanes.table.get l = a.reserveAll.lane l := by rw [a.finish_lanes_eq]; rfl
  obtain ⟨mark, later, hmark, hunsent⟩ := Ev.accept_unsent_marked (e.newPack k (newFile r d) c l g) r (x := x)
    (fun _ _ _ horigin => by rw [← hx] at horigin; cases horigin) own
  have hqueue : a.finish.queue.unsent = (s.queue.unsent.map (e.openMark g l)).map mark
      ++ (x :: own.map (fun w => w.entry (some r))) ++ later.map (fun w => w.entry none) := by
    rw [← ha, hunsent, ← h.link.queue]
    rfl
  refine ⟨?_, ?_, ?_, ?_, ?_, fun j => ?_, ⟨_, later, by subst hx hown; exact hqueue, ?_,
    fun hfree y hy q a' horigin => ?_⟩, ?_, ?_, ?_, ?_, ?_, ?_, ?_, ?_, ?_⟩
  · rw [a.finish_cmd, ← h.cmd, ← ha]; rfl
  · rw [hlane', hopen, hlane]; rfl
  · rw [hlane', hbinding, hlane]
    exact congrArg Lane.binding h.lane_same
  · rw [hlane', hplace, hlane, placedAt, if_neg hl]
    exact h.tick
  · rw [a.finish_frames_eq]
    exact (hgrows.frame_kept (m := g) (by rw [hframe]; simp)).trans hframe
  · rw [a.finish_slots, ← ha]
    show (put e.slots.table k (.filling (newFile r d) c l { frame := g, entry := 0, offset := 0 })).get j = _
    rw [get_put_read, h.slots_none hwait]
    rfl
  · rw [hmark.map_unmarked]
    exact (e.openMark_marking g l).map_unmarked _
  · obtain ⟨z, hz, rfl⟩ := List.mem_map.mp hy
    obtain ⟨y, hy, rfl⟩ := List.mem_map.mp hz
    have horigin' : y.origin = .upstream q (.pack g) a' := by
      have hsame := (hmark.unmark (e.openMark g l y)).trans ((e.openMark_marking g l).unmark y)
      exact (congrArg Entry.origin hsame).symm.trans horigin
    exact hmark.keeps _ (h.openMark_cancels g hfor hfree horigin')
  · rw [a.finish_sent, ← h.link.queue, ← ha]; rfl
  · rw [a.finish_reads, ← h.link.queue, ← ha]; rfl
  · rw [a.finish_probes, ← h.link.queue, ← ha]; rfl
  · rw [a.finish_linkOut, ← ha]
    show e.linkOut ++ _ = _
    rw [h.link.linkOut]; rfl
  · rw [a.finish_storeOut, ← ha]; exact h.link.storeOut
  · rw [a.finish_loader, ← ha]; exact h.link.loader
  · rw [a.finish_decoder, ← ha]; exact h.link.decoder
  · rw [a.finish_port, ← ha]; exact h.link.port
  · rw [a.finish_pending, ← ha]; exact h.link.pending

/-- What else stands at the end of that OPEN: entries, the other lanes and frames, the copy pattern, the seals made. -/
theorem Ev.Rebinds.opensPack_rest {r : Requester} {x : Entry} {own : List OwnWrite} {t : State}
    (ht : t = ((e.newPack k f c l g).acceptWrite r x own).finish) :
    t.coll = { e.coll with entries := touched f.intent.tag e.coll.entries }
      ∧ (∀ m : LaneNo, m ≠ l → (t.lanes.table.get m).binding = (s.lanes.table.get m).binding
        ∧ (t.lanes.table.get m).openFrame = (s.lanes.table.get m).openFrame
        ∧ (t.lanes.table.get m).lastPlace = (s.lanes.table.get m).lastPlace)
      ∧ (∀ j, j ≠ g → (e.frame j).state ≠ .free → t.frames.table.get j = e.frame j)
      ∧ t.copy = e.copy ∧ (∀ w ∈ e.made, Made t w) ∧ KeepsGeometry s t := by
  subst ht
  generalize ha : (e.newPack k f c l g).acceptWrite r x own = a
  have hgrows := a.reserveAll_grows
  refine ⟨?_, fun m hm => ?_, fun j hj hstate => ?_, ?_, fun w hw => ?_, ?_⟩
  · rw [a.finish_coll, ← ha]; rfl
  · have hlane : a.lane m = s.lanes.table.get m := by
      rw [← ha]
      refine (get_put_other _ _ _ _ hm.symm).trans ?_
      exact (h.lane m).trans (if_neg hm.symm)
    have hkept := hgrows.lane_keeps m
    rw [hlane] at hkept
    rw [a.finish_lanes_eq]
    exact hkept
  · have hframe : a.frame j = e.frame j := by
      rw [← ha]
      exact get_put_other _ _ _ _ hj.symm
    rw [a.finish_frames_eq, ← hframe]
    exact hgrows.frame_kept (by rwa [hframe])
  · rw [a.finish_copy, ← ha]; rfl
  · exact Ev.finish_made (by rw [← ha]; exact hw)
  · refine KeepsGeometry.trans h.geometry (KeepsGeometry.trans ?_ a.finish_geometry)
    rw [← ha]
    exact ⟨rfl, rfl, rfl, rfl, rfl, rfl, rfl⟩

/-- The notices of that OPEN are those of the lane's eviction, if there was one (R102, R158). -/
theorem Ev.Rebinds.opensPack_notices {r : Requester} {x : Entry} {own : List OwnWrite} {t : State}
    (ht : t = ((e.newPack k f c l g).acceptWrite r x own).finish) :
    (e.posted = [] → KeepsNotices s t)
      ∧ ∀ b, e.posted = [(.lane, { time := s.cmd.bridgeTime, body := b })] → Posted s t [b] := by
  subst ht
  generalize ha : (e.newPack k f c l g).acceptWrite r x own = a
  have hposted : a.posted = e.posted := by rw [← ha]; rfl
  have hsame : a.sameWait := by
    rw [← ha]
    exact h.wasEmpty.trans (congrArg List.isEmpty h.waitQ.symm)
  have hnotes : a.notes = s.notes := by rw [← ha]; exact h.notes
  have htime : a.cmd.bridgeTime = s.cmd.bridgeTime := by rw [← h.cmd, ← ha]; rfl
  refine ⟨fun hnone => Ev.finish_keepsNotices hsame hnotes (hposted.trans hnone),
    fun b hone => Ev.finish_posted (p := .lane) hsame hnotes ?_⟩
  rw [hposted, hone, htime]

/-- What stands after the step of the OPEN frame that the lane held, and of the copy pattern (R84, R110, R116). -/
theorem Ev.Rebinds.closesLane {t : State}
    (hframe : ∀ n, (s.lanes.table.get l).openFrame = some n → t.frames.table.get n = e.frame n) (hcopy : t.copy = e.copy)
    (hmade : ∀ w ∈ e.made, Made t w) (hdecoder : t.decoder = s.decoder) (hgeometry : KeepsGeometry s t)
    (htime : t.cmd.bridgeTime = s.cmd.bridgeTime) : ClosesLane s t l .evicted := by
  obtain ⟨e', hclosed, hcopy', hmade', hframes⟩ := h.closing
  obtain ⟨hexp, _, _, _, hpreamble, _, _⟩ := hgeometry
  refine hclosed.closesLane (fun n hn => ?_) (hcopy.trans hcopy') (fun w hw => hmade w (hmade' ▸ hw)) hdecoder hexp
    hpreamble htime
  rw [hframe n hn, Ev.frame, hframes]
  rfl

/-- The OPEN frame that the lane held is closed in the step that opens its new pack (R84, R110). -/
theorem Ev.Rebinds.opensPack_closed {n : FrameNo} (hholds : HoldsOpen s l n) (hfor : FrameFor s l g) {r : Requester}
    {x : Entry} {own : List OwnWrite} {t : State} (ht : t = ((e.newPack k f c l g).acceptWrite r x own).finish) :
    ClosedRecord s t n .evicted := by
  have hheld := openIsHeld_of_holdsOpen hholds
  obtain ⟨_, _, hframes, hcopy, hmade, hgeometry⟩ := h.opensPack_rest ht
  refine (h.closesLane (fun j hj => ?_) hcopy hmade ?_ hgeometry ?_).1 n hholds.1
  · obtain ⟨_, hopened, _⟩ := hheld j hj
    refine hframes j (ne_of_frameFor (hheld j hj) hfor) (fun hcontra => ?_)
    rw [(h.free_iff hheld j).mp hcontra] at hopened
    cases hopened
  · rw [ht, Ev.finish_decoder]
    exact h.link.decoder
  · rw [ht, Ev.finish_cmd]
    show e.cmd.bridgeTime = _
    rw [h.cmd]

/-! ### The OPEN that waits for a frame in the lane given -/

/-- No slot waits for the lane once its waiters are moved to lane 0 (R84). -/
theorem Ev.Rebinds.no_waiter (hl : l ≠ 0) {j : SlotNo} (hj : j ∈ s.frames.waitQ) : e.waitsFor j l = false := by
  have hslot : e.slot j = movedWaiter s l j := h.slots j
  rw [movedWaiter_eq] at hslot
  unfold Ev.waitsFor
  rw [hslot]
  cases s.slots.table.get j with
  | waiting f' c' m =>
    simp only [movedAmong, hj, true_and, beq_eq_false_iff_ne]
    split
    · exact hl.symm
    · assumption
  | idle | lookup _ | filling _ _ _ _ => rfl

theorem Ev.Rebinds.no_free (hheld : OpenIsHeld s l)
    (hnone : ∀ m, InUse s m → (s.frames.table.get m).state ≠ .free) : e.lowestFree = none := by
  obtain ⟨_, hnF, _⟩ := h.geometry
  refine State.lowestFree_none (fun m hm hcontra => hnone m ?_ ((h.free_iff hheld m).mp hcontra))
  rw [InUse, hnF] at hm
  exact hm

theorem Ev.Rebinds.route_waits (hl : l ≠ 0) (hheld : OpenIsHeld s l) (hwait : s.frames.waitQ ≠ [])
    (hreserved : (s.lanes.table.get l).reserved = none)
    (hnone : ∀ m, InUse s m → (s.frames.table.get m).state ≠ .free) : e.route k f c l = e.queuedFor k f c l := by
  have hopen : (e.lane l).openFrame = none := by rw [h.lane_same]
  have hreserved' : (e.lane l).reserved = none := by rw [h.lane_same]; exact hreserved
  have hfree := h.no_free hheld hnone
  have hframe : e.frameFor l = none := by
    unfold Ev.frameFor
    rw [hreserved', hfree, ite_self]
  have hany : e.frames.waitQ.any (fun j => e.waitsFor j l) = false := by
    rw [h.waitQ, List.any_eq_false]
    intro j hj
    rw [h.no_waiter hl hj]
    simp
  have hempty : e.frames.waitQ.isEmpty = false := by rw [h.waitQ]; simpa using hwait
  unfold Ev.route
  rw [hany, hopen]
  simp only [Bool.false_eq_true, if_false]
  unfold Ev.openOrWait
  rw [hframe]
  show e.joinWait k f c l = _
  unfold Ev.joinWait
  dsimp only
  rw [hempty]
  exact Ev.grantAll_no_free hfree

theorem Ev.Rebinds.openWrites_waits : (e.queuedFor k f c l).openWrites k
    = (e.queuedFor k f c l, [s.statusWrite k 2 .queuedFrame f.lastReq 0 none 0]) := by
  have hreport : (e.queuedFor k f c l).reportOf k = s.statusWrite k 2 .queuedFrame f.lastReq 0 none 0 := by
    rw [Ev.reportOf_waiting (e := e.queuedFor k f c l) (get_put_same _ _ _)]
    show e.statusWrite k 2 .queuedFrame f.lastReq 0 none 0 = _
    simp only [State.statusWrite, State.controlAddr, h.link.decoder]
  rw [Ev.openWrites_seals (e := e.queuedFor k f c l) (header := []) (List.append_nil e.made).symm h.made_isSeal
    (by simp), hreport]
  rfl

/-- What stands at the end of the OPEN whose slot joins the queue for the lane given. -/
theorem Ev.Rebinds.waits (hwait : s.frames.waitQ ≠ []) {r : Requester} {x : Entry}
    {own : List OwnWrite} {t : State} (ht : t = ((e.queuedFor k f c l).acceptWrite r x own).finish) :
    (e.queuedFor k f c l).LeftIn t ∧ Took s t r x own ∧ ClosesLane s t l .evicted
      ∧ ∀ b, e.posted = [(.lane, { time := s.cmd.bridgeTime, body := b })] → Posted s t [b] := by
  subst ht
  have hwait' : (e.queuedFor k f c l).frames.waitQ ≠ [] := by simp [Ev.queuedFor, Ev.setWaitQ]
  have hreserves : (e.queuedFor k f c l).reservesNone := .inl ⟨h.due, .inr hwait'⟩
  have hsame : ((e.queuedFor k f c l).acceptWrite r x own).sameWait := by
    have hempty : (e.frames.waitQ ++ [k]).isEmpty = false := by simp
    have hempty' : s.frames.waitQ.isEmpty = false := by simpa using hwait
    exact h.wasEmpty.trans (hempty'.trans hempty.symm)
  have hleft := Ev.accept_leftIn hreserves r x own
  have htook := Ev.accept_took (s := s) hreserves h.link.queue h.link.linkOut h.link.storeOut r x own
  have hgeometry : KeepsGeometry s ((e.queuedFor k f c l).acceptWrite r x own).finish := by
    rw [KeepsGeometry, hleft.frames, hleft.lanes]
    exact h.geometry
  refine ⟨hleft, htook, ?_, fun b hone => Ev.finish_posted (p := .lane) hsame h.notes ?_⟩
  · exact h.closesLane (fun n _ => by rw [hleft.frames]; rfl) hleft.copy (fun w hw => Ev.finish_made hw)
      (hleft.decoder.trans h.link.decoder) hgeometry (by rw [hleft.cmd]; exact congrArg CommandUnit.bridgeTime h.cmd)
  · show e.posted = [(_, { time := e.cmd.bridgeTime, body := b })]
    rw [hone, h.cmd]

end

end Sys2Proof.Machine
end

section
/-! SUPPORT. The obligation on the lanes that collections are given (R83, R84). -/

namespace Sys2Proof.Machine

open Sys2Proof.Safety

/-! ### The entries of the collection table -/

theorem CollEntry.withoutLane_withLane (old t : Tag) (l : LaneNo) (y : CollEntry) :
    (y.withoutLane old).withLane t l = if y.tag = t then { y with lane := some l } else y.withoutLane old := by
  unfold CollEntry.withLane
  rw [CollEntry.withoutLane_tag]
  split
  · unfold CollEntry.withoutLane
    split <;> rfl
  · rfl

/-- An entry changed but for its tag, and moved to the most recent place (R86). -/
theorem touched_map {x : CollEntry} {entries : List CollEntry} {f : CollEntry → CollEntry} (htag : ∀ y, (f y).tag = y.tag)
    (hx : entries.find? (fun y => y.tag == x.tag) = some x) :
    touched x.tag (entries.map f) = f x :: (entries.filter (fun y => y.tag != x.tag)).map f := by
  have hfind : (entries.map f).find? (fun y => y.tag == x.tag) = some (f x) := by
    rw [List.find?_map, show (fun y : CollEntry => y.tag == x.tag) ∘ f = fun y => y.tag == x.tag from
      funext (fun y => by simp [htag]), hx]
    rfl
  have hfilter : (entries.map f).filter (fun y => y.tag != x.tag) = (entries.filter (fun y => y.tag != x.tag)).map f := by
    rw [List.filter_map, show (fun y : CollEntry => y.tag != x.tag) ∘ f = fun y => y.tag != x.tag from
      funext (fun y => by simp [htag])]
  rw [touched, hfind, hfilter]

theorem map_withLane_others (t : Tag) (l : LaneNo) (entries : List CollEntry) :
    (entries.filter (fun y => y.tag != t)).map (CollEntry.withLane t l) = entries.filter (fun y => y.tag != t) := by
  refine (List.map_congr_left (g := id) (fun y hy => if_neg ?_)).trans (List.map_id _)
  simpa using (List.mem_filter.mp hy).2

/-- The entries after an unbound lane is given to a tag (R83, R86). -/
theorem touched_withLane {x : CollEntry} {entries : List CollEntry} (l : LaneNo)
    (hx : entries.find? (fun y => y.tag == x.tag) = some x) : touched x.tag (entries.map (CollEntry.withLane x.tag l))
      = { x with lane := some l } :: entries.filter (fun y => y.tag != x.tag) := by
  rw [touched_map (CollEntry.withLane_tag x.tag l) hx, map_withLane_others, CollEntry.withLane, if_pos rfl]

/-- The entries after an evicted lane is given to a tag (R84, R86). -/
theorem touched_rebound {x : CollEntry} {entries : List CollEntry} (old : Tag) (l : LaneNo)
    (hx : entries.find? (fun y => y.tag == x.tag) = some x) :
    touched x.tag ((entries.map (CollEntry.withoutLane old)).map (CollEntry.withLane x.tag l))
      = { x with lane := some l } :: (entries.filter (fun y => y.tag != x.tag)).map (CollEntry.withoutLane old) := by
  have htag (y : CollEntry) : ((CollEntry.withLane x.tag l ∘ CollEntry.withoutLane old) y).tag = y.tag :=
    (CollEntry.withLane_tag x.tag l _).trans (CollEntry.withoutLane_tag old y)
  rw [List.map_map, touched_map htag hx]
  congr 1
  · exact (CollEntry.withoutLane_withLane old x.tag l x).trans (if_pos rfl)
  · refine List.map_congr_left (fun y hy => (CollEntry.withoutLane_withLane old x.tag l y).trans (if_neg ?_))
    simpa using (List.mem_filter.mp hy).2

end Sys2Proof.Machine

namespace Sys2Proof.Safety

open Sys2Proof.Machine

/-! ### The OPEN of a tag whose entry has no lane -/

/-- A file with a class hint is routed by its class (R24). -/
theorem decideRoute_hinted {d : List Byte} {c : ClassNo} (h : field d 22 1 = c.val) (e : Ev) (k : SlotNo) (r : Requester) :
    e.decideRoute k (newFile r d) = e.routeClass k (newFile r d) c := by
  have hc : classNo? (newFile r d).intent.hint = some c := by
    rw [← classNo_of_val c]
    exact congrArg classNo? h
  unfold Ev.decideRoute
  rw [hc]

section
variable {s : State} {r : Requester} {addr : UpAddr} {d : List Byte} {k : SlotNo} {c : ClassNo} {l : LaneNo} {tag : Tag}
  {e : Ev} (hslot : s.slots.table.get k = .idle) (hlen : LengthOk d) (h : e.Rebinds s l tag c)
  (hroute : (Ev.start s.clearOut).decideRoute k (newFile r d) = e.route k (newFile r d) c l)
include hslot hlen h hroute

/-- The step of an OPEN that opens a pack in the lane given to its collection (R12, R93, R96). -/
theorem takeWrite_newPack {g : FrameNo} (due : RecordDue s r addr d k 1 2) (hheld : OpenIsHeld s l)
    (hwait : s.frames.waitQ = []) (hserial : s.cmd.nextSerial < 2 ^ 48) (hfor : FrameFor s l g)
    (hstays : StaysOpen (packRecord s l (.collection tag c)) (field d 12 4)) :
    s.takeWrite r addr d = ((e.newPack k (newFile r d) c l g).acceptWrite r
      (upstreamEntry r .control addr (s.decoder.control.store + (0x1000 + k.val * 64)) d)
      [s.openHeaderWrite g (packRecord s l (.collection tag c)),
       s.statusWrite k 3 .placed (BitVec.ofNat 8 (field d 1 1)) 0
         (some { frame := g, entry := 0, serial := s.cmd.nextSerial }) 0]).finish := by
  have hact := actRecord_openRouted due hslot hlen
  rw [hroute, h.route_newPack g k (newFile r d) hheld hwait hserial hfor hstays, h.openWrites_newPack] at hact
  exact takeWrite_record due hact rfl

/-- The step of an OPEN that finds no frame for the lane given to its collection (R12, R93, R101). -/
theorem takeWrite_waits (due : RecordDue s r addr d k 1 1) (hl : l ≠ 0) (hheld : OpenIsHeld s l)
    (hwait : s.frames.waitQ ≠ []) (hreserved : (s.lanes.table.get l).reserved = none)
    (hnone : ∀ m, InUse s m → (s.frames.table.get m).state ≠ .free) :
    s.takeWrite r addr d = ((e.queuedFor k (newFile r d) c l).acceptWrite r
      (upstreamEntry r .control addr (s.decoder.control.store + (0x1000 + k.val * 64)) d)
      [s.statusWrite k 2 .queuedFrame (BitVec.ofNat 8 (field d 1 1)) 0 none 0]).finish := by
  have hact := actRecord_openRouted due hslot hlen
  rw [hroute, h.route_waits hl hheld hwait hreserved hnone, h.openWrites_waits] at hact
  exact takeWrite_record due hact rfl

end

/-- The lanes after an OPEN whose file goes to the OPEN pack of lane 0: lane 0 keeps no time (R86). -/
theorem open_placed_lanes {s : State} {r : Requester} {addr : UpAddr} {d : List Byte} {k : SlotNo} {c : ClassNo}
    {n : FrameNo} {entries : List CollEntry} (due : RecordDue s r addr d k 1 1) (hslot : s.slots.table.get k = .idle)
    (hlen : LengthOk d)
    (hroute : (Ev.start s.clearOut).decideRoute k (newFile r d) = (withEntries s entries).placedIn k (newFile r d) c 0 n) :
    (s.takeWrite r addr d).lanes = s.lanes := by
  have hact := actRecord_openRouted due hslot hlen
  rw [hroute, Ev.openWrites_of_made_nil rfl] at hact
  have hquiet := Ev.placedIn_quiet k (newFile r d) c 0 n (e := withEntries s entries) ⟨rfl, rfl, rfl⟩
  rw [takeWrite_record due hact rfl, (Ev.accept_leftIn hquiet.reservesNone r _ _).lanes, Ev.placedIn_lanes]
  show { s.lanes with table := put s.lanes.table 0 { s.lanes.table.get 0 with lastPlace := placedAt s 0 } } = s.lanes
  rw [placedAt, if_pos rfl, put_get_self]

/-- Settles O20: the lane is unbound or the victim, and the file opens its pack or waits there; or it is lane 0. -/
theorem lanesAreBoundAndEvicted : Obligations.LanesAreBoundAndEvicted := by
  unfold Obligations.LanesAreBoundAndEvicted
  intro s r addr d k c x hslot hlen hclass hown htag hx hlane b age oldest others otherLanes
  have hentry : (Ev.start s.clearOut).entryOf (newFile r d).intent.tag = some x := by
    show s.coll.entries.find? (fun y => y.tag == BitVec.ofNat 32 (field d 8 4)) = some x
    rw [← htag]
    exact hx
  have htag' : (newFile r d).intent.tag = x.tag := htag.symm
  have hroute {e : Ev} {l : LaneNo} (hchoose : (Ev.start s.clearOut).chooseLane (newFile r d).intent.tag c = (e, l)) :
      (Ev.start s.clearOut).decideRoute k (newFile r d) = e.route k (newFile r d) c l := by
    rw [decideRoute_hinted hclass, Ev.routeClass, hchoose]
  have hevicts {l : LaneNo} (hl : l ≠ 0) (hold : oldest l) : (Ev.start s.clearOut).decideRoute k (newFile r d)
      = ((Ev.start s.clearOut).evictLane l x.tag c).route k (newFile r d) c l := by
    obtain ⟨hmax, hhold⟩ := hold
    have hvictim : (Ev.start s.clearOut).victim = l := Ev.victim_oldest hl (fun m hm => (hmax m hm).2)
    refine hroute ?_
    rw [Ev.chooseLane_evicts (e := Ev.start s.clearOut) hown hentry hlane (fun m hm => (hmax m hm).1)
      (by rw [hvictim]; exact hhold), hvictim, htag']
  refine ⟨fun l g hwait due hserial hl hstays hfor => ⟨fun ⟨hunbound, hopen, hlower⟩ => ⟨_, rfl, ?_⟩,
      fun n old oldClass hold hbound hholds => ⟨_, rfl, ?_⟩⟩,
    fun n hwait due hyoung hholds hfits hstays => ?_,
    fun l old oldClass due hwait hl hold hbound hheld hreserved hnofree => ⟨_, rfl, ?_⟩⟩
  · have hheld : OpenIsHeld s l := fun n hn => absurd (hopen.symm.trans hn) (by simp)
    have h := Ev.bindLane_rebinds hopen hwait x.tag c
    have hchoose := Ev.chooseLane_binds (e := Ev.start s.clearOut) hown hentry hlane hl hunbound hlower
    rw [htag'] at hchoose
    have ht := takeWrite_newPack hslot hlen h (hroute (by rw [htag', hchoose])) due hheld hwait hserial hfor hstays
    obtain ⟨hcoll, hlanes, _, hcopy, _⟩ := h.opensPack_rest ht
    refine ⟨h.opensPack hl hwait hfor ht, ?_, hlanes, (h.opensPack_notices ht).1 rfl, hcopy⟩
    rw [hcoll, htag']
    exact congrArg (fun entries => { s.coll with entries := entries }) (touched_withLane l hx)
  · have hheld := openIsHeld_of_holdsOpen hholds
    have hactive : s.loader.state = .active := due.1.1.1.1
    obtain ⟨h, hcoll, hposted⟩ := Ev.evictLane_rebinds hactive hheld hbound x.tag c
    have hroute' := hevicts hl hold
    generalize (Ev.start s.clearOut).evictLane l x.tag c = e at h hcoll hposted hroute'
    have ht := takeWrite_newPack hslot hlen h hroute' due hheld hwait hserial hfor hstays
    obtain ⟨hentries, hlanes, _⟩ := h.opensPack_rest ht
    refine ⟨h.opensPack hl hwait hfor ht, h.opensPack_closed hholds hfor ht, ?_, hlanes,
      (h.opensPack_notices ht).2 _ hposted⟩
    rw [hentries, htag', hcoll]
    exact congrArg (fun entries => { s.coll with entries := entries }) (touched_rebound old l hx)
  · have hchoose := Ev.chooseLane_refused (e := Ev.start s.clearOut) hown hentry hlane (fun m hm => (hyoung m hm).1)
      (hyoung _ (Ev.victim_ne_zero _)).2
    have hroute' : (Ev.start s.clearOut).decideRoute k (newFile r d)
        = (withEntries s s.coll.entries).placedIn k (newFile r d) c 0 n := by
      rw [hroute hchoose, Ev.route_openPack (e := Ev.start s.clearOut) (f := newFile r d) hwait hholds.1 hfits hstays]
      rfl
    obtain ⟨t, hexec, hslots, hframe, hframes, _, _, _, hcoll, _, hnotes, _, hcopy⟩ := open_placed due hslot hlen hroute'
    have ht : s.takeWrite r addr d = t := by
      have hstep : exec (.openFile r addr d) s = .next (s.takeWrite r addr d) := rfl
      rw [hstep] at hexec
      injection hexec
    refine ⟨t, hexec, ?_, (hslots k).trans (if_pos rfl), hframe, hframes, ?_, hcopy, hnotes⟩
    · rw [← ht]
      exact open_placed_lanes due hslot hlen hroute'
    · rw [hcoll, ← htag, touched, hx]
  · have hactive : s.loader.state = .active := due.1.1.1.1
    obtain ⟨h, hcoll, hposted⟩ := Ev.evictLane_rebinds hactive hheld hbound x.tag c
    have hroute' := hevicts hl hold
    generalize (Ev.start s.clearOut).evictLane l x.tag c = e at h hcoll hposted hroute'
    have ht := takeWrite_waits hslot hlen h hroute' due hl hheld hwait hreserved hnofree
    obtain ⟨hleft, htook, hcloses, hnotice⟩ := h.waits hwait ht
    refine ⟨fun j => ?_, ?_, hcloses, fun j hj => ?_, ?_, fun m hm => ?_, ?_, htook, hnotice _ hposted, ?_, ?_⟩
    · rw [hleft.slots, ← h.slots j]
      exact get_put_read _ _ _ _
    · rw [hleft.frames, ← h.waitQ]
      rfl
    · obtain ⟨e', hclosed, _, _, hframes⟩ := h.closing
      rw [hleft.frames]
      show e.frames.table.get j = _
      rw [hframes]
      exact hclosed.other j hj
    · rw [hleft.lanes]
      exact h.lane_same
    · rw [hleft.lanes]
      exact (h.lane m).trans (if_neg hm.symm)
    · rw [hleft.coll]
      show e.coll = _
      rw [hcoll, List.map_map]
      exact congrArg (fun entries => { s.coll with entries := entries })
        (List.map_congr_left (fun y _ => CollEntry.withoutLane_withLane old x.tag l y))
    · rw [hleft.cmd]
      exact h.cmd
    · exact ⟨hleft.loader.trans h.link.loader, hleft.decoder.trans h.link.decoder, hleft.port.trans h.link.port,
        hleft.pending.trans h.link.pending⟩

end Sys2Proof.Safety
end
